-- ==== Sys2Proof/Word.lean ====
section
/-! DEFINITION. The words of the block (00_scope.md R5, R11): data bytes, addresses, the cycle count. -/

namespace Sys2Proof

/-- A data byte, `u8` (00_scope.md R5). A zero-page address is one too (20_memory.md R73). -/
abbrev Byte := BitVec 8

/-- A 16-bit address, `u16`; its arithmetic wraps modulo 65536 (20_memory.md R71). -/
abbrev Addr := BitVec 16

/-- The cycle counter's word, `u64`; its arithmetic wraps modulo 2^64 (10_state.md R37). -/
abbrev Cycles := BitVec 64

end Sys2Proof
end

