-- ==== Sys2Proof/Syntax.lean ====
section
/-! DEFINITION. Syntax: the 56 mnemonics (30_encoding.md R108), the twelve addressing-mode variants
(20_memory.md R70, 00_scope.md R16), and the instructions: one constructor per row of
spec/opcode_table.json, that is, per (mnemonic, mode) pair of 30_encoding.md R99. -/

namespace Sys2Proof

/-- The 56 recognised mnemonics (30_encoding.md R108). -/
inductive Mnemonic where
  | ADC | AND | ASL | BCC | BCS | BEQ | BIT | BMI | BNE | BPL
  | BRK | BVC | BVS | CLC | CLD | CLI | CLV | CMP | CPX | CPY
  | DEC | DEX | DEY | EOR | INC | INX | INY | JMP | JSR | LDA
  | LDX | LDY | LSR | NOP | ORA | PHA | PHP | PLA | PLP | ROL
  | ROR | RTI | RTS | SBC | SEC | SED | SEI | STA | STX | STY
  | TAX | TAY | TSX | TXA | TXS | TYA
  deriving DecidableEq, Repr

/-- The variant names of an addressing mode, without their operand (`variant(mode)` of 30_encoding.md
R106). -/
inductive Variant where
  | immediate
  | zeroPage
  | zeroPageX
  | zeroPageY
  | absolute
  | absoluteX
  | absoluteY
  | indirect
  | preIndexedIndirectX
  | postIndexedIndirectY
  | relative
  | implied
  deriving DecidableEq, Repr

/-- An addressing mode with the operand it carries (20_memory.md R70). A zero-page address is a byte,
an `Addr` sixteen bits; the Relative byte carries no meaning (30_encoding.md R96). -/
inductive AddressMode where
  | immediate (b : Byte)
  | zeroPage (z : Byte)
  | zeroPageX (z : Byte)
  | zeroPageY (z : Byte)
  | absolute (a : Addr)
  | absoluteX (a : Addr)
  | absoluteY (a : Addr)
  | indirect (a : Addr)
  | preIndexedIndirectX (z : Byte)
  | postIndexedIndirectY (z : Byte)
  | relative (r : Byte)
  | implied
  deriving DecidableEq, Repr

/-- The mode's variant name (30_encoding.md R106: "the mode's variant name without its operand"). -/
def AddressMode.variant : AddressMode → Variant
  | .immediate _ => .immediate
  | .zeroPage _ => .zeroPage
  | .zeroPageX _ => .zeroPageX
  | .zeroPageY _ => .zeroPageY
  | .absolute _ => .absolute
  | .absoluteX _ => .absoluteX
  | .absoluteY _ => .absoluteY
  | .indirect _ => .indirect
  | .preIndexedIndirectX _ => .preIndexedIndirectX
  | .postIndexedIndirectY _ => .postIndexedIndirectY
  | .relative _ => .relative
  | .implied => .implied

/-- The instructions, one constructor per row of spec/opcode_table.json: the mnemonic in small letters,
then the mode. -/
inductive Instr where
  | adcImmediate (b : Byte)
  | adcZeroPage (z : Byte)
  | adcZeroPageX (z : Byte)
  | adcAbsolute (a : Addr)
  | adcAbsoluteX (a : Addr)
  | adcAbsoluteY (a : Addr)
  | adcPreIndexedIndirectX (z : Byte)
  | adcPostIndexedIndirectY (z : Byte)
  | andImmediate (b : Byte)
  | andZeroPage (z : Byte)
  | andZeroPageX (z : Byte)
  | andAbsolute (a : Addr)
  | andAbsoluteX (a : Addr)
  | andAbsoluteY (a : Addr)
  | andPreIndexedIndirectX (z : Byte)
  | andPostIndexedIndirectY (z : Byte)
  | aslZeroPage (z : Byte)
  | aslZeroPageX (z : Byte)
  | aslAbsolute (a : Addr)
  | aslAbsoluteX (a : Addr)
  | aslImplied
  | bccRelative (r : Byte)
  | bcsRelative (r : Byte)
  | beqRelative (r : Byte)
  | bitZeroPage (z : Byte)
  | bitAbsolute (a : Addr)
  | bmiRelative (r : Byte)
  | bneRelative (r : Byte)
  | bplRelative (r : Byte)
  | brkImplied
  | bvcRelative (r : Byte)
  | bvsRelative (r : Byte)
  | clcImplied
  | cldImplied
  | cliImplied
  | clvImplied
  | cmpImmediate (b : Byte)
  | cmpZeroPage (z : Byte)
  | cmpZeroPageX (z : Byte)
  | cmpAbsolute (a : Addr)
  | cmpAbsoluteX (a : Addr)
  | cmpAbsoluteY (a : Addr)
  | cmpPreIndexedIndirectX (z : Byte)
  | cmpPostIndexedIndirectY (z : Byte)
  | cpxImmediate (b : Byte)
  | cpxZeroPage (z : Byte)
  | cpxAbsolute (a : Addr)
  | cpyImmediate (b : Byte)
  | cpyZeroPage (z : Byte)
  | cpyAbsolute (a : Addr)
  | decZeroPage (z : Byte)
  | decZeroPageX (z : Byte)
  | decAbsolute (a : Addr)
  | decAbsoluteX (a : Addr)
  | dexImplied
  | deyImplied
  | eorImmediate (b : Byte)
  | eorZeroPage (z : Byte)
  | eorZeroPageX (z : Byte)
  | eorAbsolute (a : Addr)
  | eorAbsoluteX (a : Addr)
  | eorAbsoluteY (a : Addr)
  | eorPreIndexedIndirectX (z : Byte)
  | eorPostIndexedIndirectY (z : Byte)
  | incZeroPage (z : Byte)
  | incZeroPageX (z : Byte)
  | incAbsolute (a : Addr)
  | incAbsoluteX (a : Addr)
  | inxImplied
  | inyImplied
  | jmpAbsolute (a : Addr)
  | jmpIndirect (a : Addr)
  | jsrAbsolute (a : Addr)
  | ldaImmediate (b : Byte)
  | ldaZeroPage (z : Byte)
  | ldaZeroPageX (z : Byte)
  | ldaAbsolute (a : Addr)
  | ldaAbsoluteX (a : Addr)
  | ldaAbsoluteY (a : Addr)
  | ldaPreIndexedIndirectX (z : Byte)
  | ldaPostIndexedIndirectY (z : Byte)
  | ldxImmediate (b : Byte)
  | ldxZeroPage (z : Byte)
  | ldxZeroPageY (z : Byte)
  | ldxAbsolute (a : Addr)
  | ldxAbsoluteY (a : Addr)
  | ldyImmediate (b : Byte)
  | ldyZeroPage (z : Byte)
  | ldyZeroPageX (z : Byte)
  | ldyAbsolute (a : Addr)
  | ldyAbsoluteX (a : Addr)
  | lsrZeroPage (z : Byte)
  | lsrZeroPageX (z : Byte)
  | lsrAbsolute (a : Addr)
  | lsrAbsoluteX (a : Addr)
  | lsrImplied
  | nopImplied
  | oraImmediate (b : Byte)
  | oraZeroPage (z : Byte)
  | oraZeroPageX (z : Byte)
  | oraAbsolute (a : Addr)
  | oraAbsoluteX (a : Addr)
  | oraAbsoluteY (a : Addr)
  | oraPreIndexedIndirectX (z : Byte)
  | oraPostIndexedIndirectY (z : Byte)
  | phaImplied
  | phpImplied
  | plaImplied
  | plpImplied
  | rolZeroPage (z : Byte)
  | rolZeroPageX (z : Byte)
  | rolAbsolute (a : Addr)
  | rolAbsoluteX (a : Addr)
  | rolImplied
  | rorZeroPage (z : Byte)
  | rorZeroPageX (z : Byte)
  | rorAbsolute (a : Addr)
  | rorAbsoluteX (a : Addr)
  | rorImplied
  | rtiImplied
  | rtsImplied
  | sbcImmediate (b : Byte)
  | sbcZeroPage (z : Byte)
  | sbcZeroPageX (z : Byte)
  | sbcAbsolute (a : Addr)
  | sbcAbsoluteX (a : Addr)
  | sbcAbsoluteY (a : Addr)
  | sbcPreIndexedIndirectX (z : Byte)
  | sbcPostIndexedIndirectY (z : Byte)
  | secImplied
  | sedImplied
  | seiImplied
  | staZeroPage (z : Byte)
  | staZeroPageX (z : Byte)
  | staAbsolute (a : Addr)
  | staAbsoluteX (a : Addr)
  | staAbsoluteY (a : Addr)
  | staPreIndexedIndirectX (z : Byte)
  | staPostIndexedIndirectY (z : Byte)
  | stxZeroPage (z : Byte)
  | stxZeroPageY (z : Byte)
  | stxAbsolute (a : Addr)
  | styZeroPage (z : Byte)
  | styZeroPageX (z : Byte)
  | styAbsolute (a : Addr)
  | taxImplied
  | tayImplied
  | tsxImplied
  | txaImplied
  | txsImplied
  | tyaImplied
  deriving DecidableEq, Repr

/-- The mnemonic of the pair an instruction stands for (30_encoding.md R97). -/
def Instr.mnemonic : Instr → Mnemonic
  | .adcImmediate _ => .ADC
  | .adcZeroPage _ => .ADC
  | .adcZeroPageX _ => .ADC
  | .adcAbsolute _ => .ADC
  | .adcAbsoluteX _ => .ADC
  | .adcAbsoluteY _ => .ADC
  | .adcPreIndexedIndirectX _ => .ADC
  | .adcPostIndexedIndirectY _ => .ADC
  | .andImmediate _ => .AND
  | .andZeroPage _ => .AND
  | .andZeroPageX _ => .AND
  | .andAbsolute _ => .AND
  | .andAbsoluteX _ => .AND
  | .andAbsoluteY _ => .AND
  | .andPreIndexedIndirectX _ => .AND
  | .andPostIndexedIndirectY _ => .AND
  | .aslZeroPage _ => .ASL
  | .aslZeroPageX _ => .ASL
  | .aslAbsolute _ => .ASL
  | .aslAbsoluteX _ => .ASL
  | .aslImplied => .ASL
  | .bccRelative _ => .BCC
  | .bcsRelative _ => .BCS
  | .beqRelative _ => .BEQ
  | .bitZeroPage _ => .BIT
  | .bitAbsolute _ => .BIT
  | .bmiRelative _ => .BMI
  | .bneRelative _ => .BNE
  | .bplRelative _ => .BPL
  | .brkImplied => .BRK
  | .bvcRelative _ => .BVC
  | .bvsRelative _ => .BVS
  | .clcImplied => .CLC
  | .cldImplied => .CLD
  | .cliImplied => .CLI
  | .clvImplied => .CLV
  | .cmpImmediate _ => .CMP
  | .cmpZeroPage _ => .CMP
  | .cmpZeroPageX _ => .CMP
  | .cmpAbsolute _ => .CMP
  | .cmpAbsoluteX _ => .CMP
  | .cmpAbsoluteY _ => .CMP
  | .cmpPreIndexedIndirectX _ => .CMP
  | .cmpPostIndexedIndirectY _ => .CMP
  | .cpxImmediate _ => .CPX
  | .cpxZeroPage _ => .CPX
  | .cpxAbsolute _ => .CPX
  | .cpyImmediate _ => .CPY
  | .cpyZeroPage _ => .CPY
  | .cpyAbsolute _ => .CPY
  | .decZeroPage _ => .DEC
  | .decZeroPageX _ => .DEC
  | .decAbsolute _ => .DEC
  | .decAbsoluteX _ => .DEC
  | .dexImplied => .DEX
  | .deyImplied => .DEY
  | .eorImmediate _ => .EOR
  | .eorZeroPage _ => .EOR
  | .eorZeroPageX _ => .EOR
  | .eorAbsolute _ => .EOR
  | .eorAbsoluteX _ => .EOR
  | .eorAbsoluteY _ => .EOR
  | .eorPreIndexedIndirectX _ => .EOR
  | .eorPostIndexedIndirectY _ => .EOR
  | .incZeroPage _ => .INC
  | .incZeroPageX _ => .INC
  | .incAbsolute _ => .INC
  | .incAbsoluteX _ => .INC
  | .inxImplied => .INX
  | .inyImplied => .INY
  | .jmpAbsolute _ => .JMP
  | .jmpIndirect _ => .JMP
  | .jsrAbsolute _ => .JSR
  | .ldaImmediate _ => .LDA
  | .ldaZeroPage _ => .LDA
  | .ldaZeroPageX _ => .LDA
  | .ldaAbsolute _ => .LDA
  | .ldaAbsoluteX _ => .LDA
  | .ldaAbsoluteY _ => .LDA
  | .ldaPreIndexedIndirectX _ => .LDA
  | .ldaPostIndexedIndirectY _ => .LDA
  | .ldxImmediate _ => .LDX
  | .ldxZeroPage _ => .LDX
  | .ldxZeroPageY _ => .LDX
  | .ldxAbsolute _ => .LDX
  | .ldxAbsoluteY _ => .LDX
  | .ldyImmediate _ => .LDY
  | .ldyZeroPage _ => .LDY
  | .ldyZeroPageX _ => .LDY
  | .ldyAbsolute _ => .LDY
  | .ldyAbsoluteX _ => .LDY
  | .lsrZeroPage _ => .LSR
  | .lsrZeroPageX _ => .LSR
  | .lsrAbsolute _ => .LSR
  | .lsrAbsoluteX _ => .LSR
  | .lsrImplied => .LSR
  | .nopImplied => .NOP
  | .oraImmediate _ => .ORA
  | .oraZeroPage _ => .ORA
  | .oraZeroPageX _ => .ORA
  | .oraAbsolute _ => .ORA
  | .oraAbsoluteX _ => .ORA
  | .oraAbsoluteY _ => .ORA
  | .oraPreIndexedIndirectX _ => .ORA
  | .oraPostIndexedIndirectY _ => .ORA
  | .phaImplied => .PHA
  | .phpImplied => .PHP
  | .plaImplied => .PLA
  | .plpImplied => .PLP
  | .rolZeroPage _ => .ROL
  | .rolZeroPageX _ => .ROL
  | .rolAbsolute _ => .ROL
  | .rolAbsoluteX _ => .ROL
  | .rolImplied => .ROL
  | .rorZeroPage _ => .ROR
  | .rorZeroPageX _ => .ROR
  | .rorAbsolute _ => .ROR
  | .rorAbsoluteX _ => .ROR
  | .rorImplied => .ROR
  | .rtiImplied => .RTI
  | .rtsImplied => .RTS
  | .sbcImmediate _ => .SBC
  | .sbcZeroPage _ => .SBC
  | .sbcZeroPageX _ => .SBC
  | .sbcAbsolute _ => .SBC
  | .sbcAbsoluteX _ => .SBC
  | .sbcAbsoluteY _ => .SBC
  | .sbcPreIndexedIndirectX _ => .SBC
  | .sbcPostIndexedIndirectY _ => .SBC
  | .secImplied => .SEC
  | .sedImplied => .SED
  | .seiImplied => .SEI
  | .staZeroPage _ => .STA
  | .staZeroPageX _ => .STA
  | .staAbsolute _ => .STA
  | .staAbsoluteX _ => .STA
  | .staAbsoluteY _ => .STA
  | .staPreIndexedIndirectX _ => .STA
  | .staPostIndexedIndirectY _ => .STA
  | .stxZeroPage _ => .STX
  | .stxZeroPageY _ => .STX
  | .stxAbsolute _ => .STX
  | .styZeroPage _ => .STY
  | .styZeroPageX _ => .STY
  | .styAbsolute _ => .STY
  | .taxImplied => .TAX
  | .tayImplied => .TAY
  | .tsxImplied => .TSX
  | .txaImplied => .TXA
  | .txsImplied => .TXS
  | .tyaImplied => .TYA

/-- The addressing mode, operand included, of the pair an instruction stands for (30_encoding.md R95). -/
def Instr.mode : Instr → AddressMode
  | .adcImmediate b => .immediate b
  | .adcZeroPage z => .zeroPage z
  | .adcZeroPageX z => .zeroPageX z
  | .adcAbsolute a => .absolute a
  | .adcAbsoluteX a => .absoluteX a
  | .adcAbsoluteY a => .absoluteY a
  | .adcPreIndexedIndirectX z => .preIndexedIndirectX z
  | .adcPostIndexedIndirectY z => .postIndexedIndirectY z
  | .andImmediate b => .immediate b
  | .andZeroPage z => .zeroPage z
  | .andZeroPageX z => .zeroPageX z
  | .andAbsolute a => .absolute a
  | .andAbsoluteX a => .absoluteX a
  | .andAbsoluteY a => .absoluteY a
  | .andPreIndexedIndirectX z => .preIndexedIndirectX z
  | .andPostIndexedIndirectY z => .postIndexedIndirectY z
  | .aslZeroPage z => .zeroPage z
  | .aslZeroPageX z => .zeroPageX z
  | .aslAbsolute a => .absolute a
  | .aslAbsoluteX a => .absoluteX a
  | .aslImplied => .implied
  | .bccRelative r => .relative r
  | .bcsRelative r => .relative r
  | .beqRelative r => .relative r
  | .bitZeroPage z => .zeroPage z
  | .bitAbsolute a => .absolute a
  | .bmiRelative r => .relative r
  | .bneRelative r => .relative r
  | .bplRelative r => .relative r
  | .brkImplied => .implied
  | .bvcRelative r => .relative r
  | .bvsRelative r => .relative r
  | .clcImplied => .implied
  | .cldImplied => .implied
  | .cliImplied => .implied
  | .clvImplied => .implied
  | .cmpImmediate b => .immediate b
  | .cmpZeroPage z => .zeroPage z
  | .cmpZeroPageX z => .zeroPageX z
  | .cmpAbsolute a => .absolute a
  | .cmpAbsoluteX a => .absoluteX a
  | .cmpAbsoluteY a => .absoluteY a
  | .cmpPreIndexedIndirectX z => .preIndexedIndirectX z
  | .cmpPostIndexedIndirectY z => .postIndexedIndirectY z
  | .cpxImmediate b => .immediate b
  | .cpxZeroPage z => .zeroPage z
  | .cpxAbsolute a => .absolute a
  | .cpyImmediate b => .immediate b
  | .cpyZeroPage z => .zeroPage z
  | .cpyAbsolute a => .absolute a
  | .decZeroPage z => .zeroPage z
  | .decZeroPageX z => .zeroPageX z
  | .decAbsolute a => .absolute a
  | .decAbsoluteX a => .absoluteX a
  | .dexImplied => .implied
  | .deyImplied => .implied
  | .eorImmediate b => .immediate b
  | .eorZeroPage z => .zeroPage z
  | .eorZeroPageX z => .zeroPageX z
  | .eorAbsolute a => .absolute a
  | .eorAbsoluteX a => .absoluteX a
  | .eorAbsoluteY a => .absoluteY a
  | .eorPreIndexedIndirectX z => .preIndexedIndirectX z
  | .eorPostIndexedIndirectY z => .postIndexedIndirectY z
  | .incZeroPage z => .zeroPage z
  | .incZeroPageX z => .zeroPageX z
  | .incAbsolute a => .absolute a
  | .incAbsoluteX a => .absoluteX a
  | .inxImplied => .implied
  | .inyImplied => .implied
  | .jmpAbsolute a => .absolute a
  | .jmpIndirect a => .indirect a
  | .jsrAbsolute a => .absolute a
  | .ldaImmediate b => .immediate b
  | .ldaZeroPage z => .zeroPage z
  | .ldaZeroPageX z => .zeroPageX z
  | .ldaAbsolute a => .absolute a
  | .ldaAbsoluteX a => .absoluteX a
  | .ldaAbsoluteY a => .absoluteY a
  | .ldaPreIndexedIndirectX z => .preIndexedIndirectX z
  | .ldaPostIndexedIndirectY z => .postIndexedIndirectY z
  | .ldxImmediate b => .immediate b
  | .ldxZeroPage z => .zeroPage z
  | .ldxZeroPageY z => .zeroPageY z
  | .ldxAbsolute a => .absolute a
  | .ldxAbsoluteY a => .absoluteY a
  | .ldyImmediate b => .immediate b
  | .ldyZeroPage z => .zeroPage z
  | .ldyZeroPageX z => .zeroPageX z
  | .ldyAbsolute a => .absolute a
  | .ldyAbsoluteX a => .absoluteX a
  | .lsrZeroPage z => .zeroPage z
  | .lsrZeroPageX z => .zeroPageX z
  | .lsrAbsolute a => .absolute a
  | .lsrAbsoluteX a => .absoluteX a
  | .lsrImplied => .implied
  | .nopImplied => .implied
  | .oraImmediate b => .immediate b
  | .oraZeroPage z => .zeroPage z
  | .oraZeroPageX z => .zeroPageX z
  | .oraAbsolute a => .absolute a
  | .oraAbsoluteX a => .absoluteX a
  | .oraAbsoluteY a => .absoluteY a
  | .oraPreIndexedIndirectX z => .preIndexedIndirectX z
  | .oraPostIndexedIndirectY z => .postIndexedIndirectY z
  | .phaImplied => .implied
  | .phpImplied => .implied
  | .plaImplied => .implied
  | .plpImplied => .implied
  | .rolZeroPage z => .zeroPage z
  | .rolZeroPageX z => .zeroPageX z
  | .rolAbsolute a => .absolute a
  | .rolAbsoluteX a => .absoluteX a
  | .rolImplied => .implied
  | .rorZeroPage z => .zeroPage z
  | .rorZeroPageX z => .zeroPageX z
  | .rorAbsolute a => .absolute a
  | .rorAbsoluteX a => .absoluteX a
  | .rorImplied => .implied
  | .rtiImplied => .implied
  | .rtsImplied => .implied
  | .sbcImmediate b => .immediate b
  | .sbcZeroPage z => .zeroPage z
  | .sbcZeroPageX z => .zeroPageX z
  | .sbcAbsolute a => .absolute a
  | .sbcAbsoluteX a => .absoluteX a
  | .sbcAbsoluteY a => .absoluteY a
  | .sbcPreIndexedIndirectX z => .preIndexedIndirectX z
  | .sbcPostIndexedIndirectY z => .postIndexedIndirectY z
  | .secImplied => .implied
  | .sedImplied => .implied
  | .seiImplied => .implied
  | .staZeroPage z => .zeroPage z
  | .staZeroPageX z => .zeroPageX z
  | .staAbsolute a => .absolute a
  | .staAbsoluteX a => .absoluteX a
  | .staAbsoluteY a => .absoluteY a
  | .staPreIndexedIndirectX z => .preIndexedIndirectX z
  | .staPostIndexedIndirectY z => .postIndexedIndirectY z
  | .stxZeroPage z => .zeroPage z
  | .stxZeroPageY z => .zeroPageY z
  | .stxAbsolute a => .absolute a
  | .styZeroPage z => .zeroPage z
  | .styZeroPageX z => .zeroPageX z
  | .styAbsolute a => .absolute a
  | .taxImplied => .implied
  | .tayImplied => .implied
  | .tsxImplied => .implied
  | .txaImplied => .implied
  | .txsImplied => .implied
  | .tyaImplied => .implied

end Sys2Proof
end

