-- ==== Sys2Proof/Config.lean ====
section
/-! DEFINITION. Config: what an implementation fixes, as types (00_scope.md R6 to R8), and the one value the spec
leaves free. The values in force are `activeConfig` in Machine/CostTable.lean. -/

namespace Sys2Proof

/-- Whether ASL writes the carry flag (00_scope.md R6, D5). -/
inductive AslCarry where
  /-- C takes bit 7 of the operand before the shift. -/
  | canonical
  /-- C is not written. -/
  | asWritten
  deriving DecidableEq, Repr

/-- What ADC does when P.D = 1 (00_scope.md R7, D6). -/
inductive DecimalAdc where
  /-- P.D is ignored. -/
  | binary
  /-- ADC with P.D = 1 has no meaning in the model. -/
  | refuse
  deriving DecidableEq, Repr

/-- The triple (opcode byte, length in bytes, base cycles) of one (mnemonic, mode) pair
(00_scope.md R8, 10_state.md R39). -/
structure ExecutionMetrics where
  opcode : Byte
  bytes : Nat
  cycles : Nat
  deriving DecidableEq, Repr

/-- One row of the cost table (30_encoding.md R101). -/
structure CostRow where
  mnemonic : Mnemonic
  variant : Variant
  metrics : ExecutionMetrics
  deriving DecidableEq, Repr

/-- One row of the decode table (30_encoding.md R97): an opcode byte, what it decodes to, and the length in bytes,
which decides what the decoder reads. -/
structure DecodeRow where
  opcode : Byte
  mnemonic : Mnemonic
  variant : Variant
  bytes : Nat
  deriving DecidableEq, Repr

/-- What a cost-table row fixes for the decoder: all but its cycles (00_scope.md R8). -/
def CostRow.decodeRow (r : CostRow) : DecodeRow :=
  { opcode := r.metrics.opcode, mnemonic := r.mnemonic, variant := r.variant, bytes := r.metrics.bytes }

/-- The parameters of the block. The cost table is constant data that can be read without executing
(10_state.md R39, 30_encoding.md R103). Its rows are those with cycle counts (R101) and those of the mnemonics
without semantics, which have none (R102). -/
structure Config where
  aslCarry : AslCarry
  decimalAdc : DecimalAdc
  /-- The rows of the implemented mnemonics (30_encoding.md R101). -/
  costTable : List CostRow
  /-- The rows of the other mnemonics, which fix only the mnemonic, the mode and the length
  (30_encoding.md R102). -/
  recognisedTable : List DecodeRow
  deriving DecidableEq, Repr

/-- A free value: operand byte 1 or 2 of an instruction whose row gives it fewer bytes than its mode needs, so that
the decoder has not read that byte (30_encoding.md R97; log 26). No row of the spec's table is such a row (R94).
The arguments are the opcode byte, PC, CYC and which operand byte it is. -/
opaque Config.unreadOperand : Byte → Addr → Cycles → Nat → Byte

end Sys2Proof
end

