-- ==== Sys2Proof/Machine/CostTable.lean ====
section
/-! DEFINITION. The cost table's rows (30_encoding.md R101, R102; logs 5, 6), its lookup, and the parameters in force
(00_scope.md R6 to R8; logs 3 to 6). -/

namespace Sys2Proof.Machine

/-- A row of the cost table: mnemonic, variant, opcode byte, bytes, base cycles. -/
def costRow (m : Mnemonic) (v : Variant) (opcode : Byte) (bytes cycles : Nat) : CostRow :=
  { mnemonic := m, variant := v, metrics := { opcode := opcode, bytes := bytes, cycles := cycles } }

/-- The rows of ADC (30_encoding.md R101). -/
def costRowsAdc : List CostRow :=
  [costRow .ADC .immediate 0x69 2 2,
   costRow .ADC .zeroPage 0x65 2 3,
   costRow .ADC .zeroPageX 0x75 2 4,
   costRow .ADC .absolute 0x6D 3 4,
   costRow .ADC .absoluteX 0x7D 3 4,
   costRow .ADC .absoluteY 0x79 3 4,
   costRow .ADC .preIndexedIndirectX 0x61 2 6,
   costRow .ADC .postIndexedIndirectY 0x71 2 5]

/-- The rows of AND (30_encoding.md R101). -/
def costRowsAnd : List CostRow :=
  [costRow .AND .immediate 0x29 2 2,
   costRow .AND .zeroPage 0x25 2 3,
   costRow .AND .zeroPageX 0x35 2 4,
   costRow .AND .absolute 0x2D 3 4,
   costRow .AND .absoluteX 0x3D 3 4,
   costRow .AND .absoluteY 0x39 3 4,
   costRow .AND .preIndexedIndirectX 0x21 2 6,
   costRow .AND .postIndexedIndirectY 0x31 2 5]

/-- The rows of ASL (30_encoding.md R101). -/
def costRowsAsl : List CostRow :=
  [costRow .ASL .implied 0x0A 1 2,
   costRow .ASL .zeroPage 0x06 2 5,
   costRow .ASL .zeroPageX 0x16 2 6,
   costRow .ASL .absolute 0x0E 3 6,
   costRow .ASL .absoluteX 0x1E 3 6]

/-- The cost table (30_encoding.md R101). Every pair of ADC, AND or ASL not in it has no row, and the 53
other mnemonics have no cycle counts (R102; `recognisedTable`). -/
def costTable : List CostRow := costRowsAdc ++ costRowsAnd ++ costRowsAsl

/-- A row of the decode table: opcode byte, mnemonic, variant, bytes. -/
def recognisedRow (opcode : Byte) (m : Mnemonic) (v : Variant) (bytes : Nat) : DecodeRow :=
  { opcode := opcode, mnemonic := m, variant := v, bytes := bytes }

/-- The rows of opcodes 00 to 0F without semantics (30_encoding.md R99, R102, from spec/opcode_table.json). -/
def recognisedRows0 : List DecodeRow :=
  [recognisedRow 0x00 .BRK .implied 1, recognisedRow 0x01 .ORA .preIndexedIndirectX 2,
   recognisedRow 0x05 .ORA .zeroPage 2, recognisedRow 0x08 .PHP .implied 1,
   recognisedRow 0x09 .ORA .immediate 2, recognisedRow 0x0D .ORA .absolute 3]

/-- The rows of opcodes 10 to 1F without semantics (30_encoding.md R99, R102, from spec/opcode_table.json). -/
def recognisedRows1 : List DecodeRow :=
  [recognisedRow 0x10 .BPL .relative 2, recognisedRow 0x11 .ORA .postIndexedIndirectY 2,
   recognisedRow 0x15 .ORA .zeroPageX 2, recognisedRow 0x18 .CLC .implied 1,
   recognisedRow 0x19 .ORA .absoluteY 3, recognisedRow 0x1D .ORA .absoluteX 3]

/-- The rows of opcodes 20 to 2F without semantics (30_encoding.md R99, R102, from spec/opcode_table.json). -/
def recognisedRows2 : List DecodeRow :=
  [recognisedRow 0x20 .JSR .absolute 3, recognisedRow 0x24 .BIT .zeroPage 2,
   recognisedRow 0x26 .ROL .zeroPage 2, recognisedRow 0x28 .PLP .implied 1,
   recognisedRow 0x2A .ROL .implied 1, recognisedRow 0x2C .BIT .absolute 3,
   recognisedRow 0x2E .ROL .absolute 3]

/-- The rows of opcodes 30 to 3F without semantics (30_encoding.md R99, R102, from spec/opcode_table.json). -/
def recognisedRows3 : List DecodeRow :=
  [recognisedRow 0x30 .BMI .relative 2, recognisedRow 0x36 .ROL .zeroPageX 2,
   recognisedRow 0x38 .SEC .implied 1, recognisedRow 0x3E .ROL .absoluteX 3]

/-- The rows of opcodes 40 to 4F without semantics (30_encoding.md R99, R102, from spec/opcode_table.json). -/
def recognisedRows4 : List DecodeRow :=
  [recognisedRow 0x40 .RTI .implied 1, recognisedRow 0x41 .EOR .preIndexedIndirectX 2,
   recognisedRow 0x45 .EOR .zeroPage 2, recognisedRow 0x46 .LSR .zeroPage 2,
   recognisedRow 0x48 .PHA .implied 1, recognisedRow 0x49 .EOR .immediate 2,
   recognisedRow 0x4A .LSR .implied 1, recognisedRow 0x4C .JMP .absolute 3,
   recognisedRow 0x4D .EOR .absolute 3, recognisedRow 0x4E .LSR .absolute 3]

/-- The rows of opcodes 50 to 5F without semantics (30_encoding.md R99, R102, from spec/opcode_table.json). -/
def recognisedRows5 : List DecodeRow :=
  [recognisedRow 0x50 .BVC .relative 2, recognisedRow 0x51 .EOR .postIndexedIndirectY 2,
   recognisedRow 0x55 .EOR .zeroPageX 2, recognisedRow 0x56 .LSR .zeroPageX 2,
   recognisedRow 0x58 .CLI .implied 1, recognisedRow 0x59 .EOR .absoluteY 3,
   recognisedRow 0x5D .EOR .absoluteX 3, recognisedRow 0x5E .LSR .absoluteX 3]

/-- The rows of opcodes 60 to 6F without semantics (30_encoding.md R99, R102, from spec/opcode_table.json). -/
def recognisedRows6 : List DecodeRow :=
  [recognisedRow 0x60 .RTS .implied 1, recognisedRow 0x66 .ROR .zeroPage 2,
   recognisedRow 0x68 .PLA .implied 1, recognisedRow 0x6A .ROR .implied 1,
   recognisedRow 0x6C .JMP .indirect 3, recognisedRow 0x6E .ROR .absolute 3]

/-- The rows of opcodes 70 to 7F without semantics (30_encoding.md R99, R102, from spec/opcode_table.json). -/
def recognisedRows7 : List DecodeRow :=
  [recognisedRow 0x70 .BVS .relative 2, recognisedRow 0x76 .ROR .zeroPageX 2,
   recognisedRow 0x78 .SEI .implied 1, recognisedRow 0x7E .ROR .absoluteX 3]

/-- The rows of opcodes 80 to 8F without semantics (30_encoding.md R99, R102, from spec/opcode_table.json). -/
def recognisedRows8 : List DecodeRow :=
  [recognisedRow 0x81 .STA .preIndexedIndirectX 2, recognisedRow 0x84 .STY .zeroPage 2,
   recognisedRow 0x85 .STA .zeroPage 2, recognisedRow 0x86 .STX .zeroPage 2,
   recognisedRow 0x88 .DEY .implied 1, recognisedRow 0x8A .TXA .implied 1,
   recognisedRow 0x8C .STY .absolute 3, recognisedRow 0x8D .STA .absolute 3,
   recognisedRow 0x8E .STX .absolute 3]

/-- The rows of opcodes 90 to 9F without semantics (30_encoding.md R99, R102, from spec/opcode_table.json). -/
def recognisedRows9 : List DecodeRow :=
  [recognisedRow 0x90 .BCC .relative 2, recognisedRow 0x91 .STA .postIndexedIndirectY 2,
   recognisedRow 0x94 .STY .zeroPageX 2, recognisedRow 0x95 .STA .zeroPageX 2,
   recognisedRow 0x96 .STX .zeroPageY 2, recognisedRow 0x98 .TYA .implied 1,
   recognisedRow 0x99 .STA .absoluteY 3, recognisedRow 0x9A .TXS .implied 1,
   recognisedRow 0x9D .STA .absoluteX 3]

/-- The rows of opcodes A0 to AF without semantics (30_encoding.md R99, R102, from spec/opcode_table.json). -/
def recognisedRowsA : List DecodeRow :=
  [recognisedRow 0xA0 .LDY .immediate 2, recognisedRow 0xA1 .LDA .preIndexedIndirectX 2,
   recognisedRow 0xA2 .LDX .immediate 2, recognisedRow 0xA4 .LDY .zeroPage 2,
   recognisedRow 0xA5 .LDA .zeroPage 2, recognisedRow 0xA6 .LDX .zeroPage 2,
   recognisedRow 0xA8 .TAY .implied 1, recognisedRow 0xA9 .LDA .immediate 2,
   recognisedRow 0xAA .TAX .implied 1, recognisedRow 0xAC .LDY .absolute 3,
   recognisedRow 0xAD .LDA .absolute 3, recognisedRow 0xAE .LDX .absolute 3]

/-- The rows of opcodes B0 to BF without semantics (30_encoding.md R99, R102, from spec/opcode_table.json). -/
def recognisedRowsB : List DecodeRow :=
  [recognisedRow 0xB0 .BCS .relative 2, recognisedRow 0xB1 .LDA .postIndexedIndirectY 2,
   recognisedRow 0xB4 .LDY .zeroPageX 2, recognisedRow 0xB5 .LDA .zeroPageX 2,
   recognisedRow 0xB6 .LDX .zeroPageY 2, recognisedRow 0xB8 .CLV .implied 1,
   recognisedRow 0xB9 .LDA .absoluteY 3, recognisedRow 0xBA .TSX .implied 1,
   recognisedRow 0xBC .LDY .absoluteX 3, recognisedRow 0xBD .LDA .absoluteX 3,
   recognisedRow 0xBE .LDX .absoluteY 3]

/-- The rows of opcodes C0 to CF without semantics (30_encoding.md R99, R102, from spec/opcode_table.json). -/
def recognisedRowsC : List DecodeRow :=
  [recognisedRow 0xC0 .CPY .immediate 2, recognisedRow 0xC1 .CMP .preIndexedIndirectX 2,
   recognisedRow 0xC4 .CPY .zeroPage 2, recognisedRow 0xC5 .CMP .zeroPage 2,
   recognisedRow 0xC6 .DEC .zeroPage 2, recognisedRow 0xC8 .INY .implied 1,
   recognisedRow 0xC9 .CMP .immediate 2, recognisedRow 0xCA .DEX .implied 1,
   recognisedRow 0xCC .CPY .absolute 3, recognisedRow 0xCD .CMP .absolute 3,
   recognisedRow 0xCE .DEC .absolute 3]

/-- The rows of opcodes D0 to DF without semantics (30_encoding.md R99, R102, from spec/opcode_table.json). -/
def recognisedRowsD : List DecodeRow :=
  [recognisedRow 0xD0 .BNE .relative 2, recognisedRow 0xD1 .CMP .postIndexedIndirectY 2,
   recognisedRow 0xD5 .CMP .zeroPageX 2, recognisedRow 0xD6 .DEC .zeroPageX 2,
   recognisedRow 0xD8 .CLD .implied 1, recognisedRow 0xD9 .CMP .absoluteY 3,
   recognisedRow 0xDD .CMP .absoluteX 3, recognisedRow 0xDE .DEC .absoluteX 3]

/-- The rows of opcodes E0 to EF without semantics (30_encoding.md R99, R102, from spec/opcode_table.json). -/
def recognisedRowsE : List DecodeRow :=
  [recognisedRow 0xE0 .CPX .immediate 2, recognisedRow 0xE1 .SBC .preIndexedIndirectX 2,
   recognisedRow 0xE4 .CPX .zeroPage 2, recognisedRow 0xE5 .SBC .zeroPage 2,
   recognisedRow 0xE6 .INC .zeroPage 2, recognisedRow 0xE8 .INX .implied 1,
   recognisedRow 0xE9 .SBC .immediate 2, recognisedRow 0xEA .NOP .implied 1,
   recognisedRow 0xEC .CPX .absolute 3, recognisedRow 0xED .SBC .absolute 3,
   recognisedRow 0xEE .INC .absolute 3]

/-- The rows of opcodes F0 to FF without semantics (30_encoding.md R99, R102, from spec/opcode_table.json). -/
def recognisedRowsF : List DecodeRow :=
  [recognisedRow 0xF0 .BEQ .relative 2, recognisedRow 0xF1 .SBC .postIndexedIndirectY 2,
   recognisedRow 0xF5 .SBC .zeroPageX 2, recognisedRow 0xF6 .INC .zeroPageX 2,
   recognisedRow 0xF8 .SED .implied 1, recognisedRow 0xF9 .SBC .absoluteY 3,
   recognisedRow 0xFD .SBC .absoluteX 3, recognisedRow 0xFE .INC .absoluteX 3]

/-- The 130 rows of the 53 mnemonics without semantics (30_encoding.md R102; log 6). -/
def recognisedTable : List DecodeRow :=
  recognisedRows0 ++ recognisedRows1 ++ recognisedRows2 ++ recognisedRows3 ++ recognisedRows4 ++ recognisedRows5 ++
  recognisedRows6 ++ recognisedRows7 ++ recognisedRows8 ++ recognisedRows9 ++ recognisedRowsA ++ recognisedRowsB ++
  recognisedRowsC ++ recognisedRowsD ++ recognisedRowsE ++ recognisedRowsF

/-- `CostTable[(m, variant)]`, the table's static lookup (30_encoding.md R103, R106 step 2). -/
def metricsOf (cfg : Config) (m : Mnemonic) (v : Variant) : Option ExecutionMetrics :=
  (cfg.costTable.find? (fun r => r.mnemonic == m && r.variant == v)).map CostRow.metrics

/-- The parameters `exec` and `step` run with: the spec's defaults `AslCarry = Canonical`,
`DecimalAdc = Binary` (00_scope.md R6, R7, D5, D6; logs 3, 4) and the table of R101 and R102 (logs 5, 6). -/
def activeConfig : Config :=
  { aslCarry := .canonical, decimalAdc := .binary, costTable := costTable, recognisedTable := recognisedTable }

end Sys2Proof.Machine
end

