-- ==== Sys2Proof/Decode.lean ====
section
/-! DEFINITION. Decode: byte order (00_scope.md R12), formats and lengths (30_encoding.md R91 to R94), the
opcode map (R99), the decoder (R95, R97), and after it the encoder, whose opcode bytes are written from
spec/opcode_table.json and not from the map. -/

namespace Sys2Proof

/-- `hi(a)`, bits 15:8 (00_scope.md R12). -/
def hi (a : Addr) : Byte := a.extractLsb' 8 8

/-- `lo(a)`, bits 7:0 (00_scope.md R12). -/
def lo (a : Addr) : Byte := a.extractLsb' 0 8

/-- `from_bytes(low, high)`: little-endian halves (00_scope.md R12, 20_memory.md R53). -/
def fromBytes (low high : Byte) : Addr := high ++ low

/-- The instruction length of a variant (30_encoding.md R94). -/
def Variant.length : Variant → Nat
  | .implied => 1
  | .immediate => 2
  | .zeroPage => 2
  | .zeroPageX => 2
  | .zeroPageY => 2
  | .preIndexedIndirectX => 2
  | .postIndexedIndirectY => 2
  | .relative => 2
  | .absolute => 3
  | .absoluteX => 3
  | .absoluteY => 3
  | .indirect => 3

/-- A cell of the opcode map: the format (30_encoding.md R91 to R93), with the instruction it builds
from its operand. No operand is shifted, scaled or sign-extended (R95). -/
inductive Format where
  | f1 (i : Instr)
  | f2 (build : Byte → Instr)
  | f3 (build : Addr → Instr)

/-- The number of bytes of a format. -/
def Format.length : Format → Nat
  | .f1 _ => 1
  | .f2 _ => 2
  | .f3 _ => 3

/-- Row 0 of the opcode map: opcodes 00 to 0F (30_encoding.md R99). -/
def opcodeRow0 : List (Option Format) :=
  [some (.f1 .brkImplied), some (.f2 .oraPreIndexedIndirectX), none, none,
   none, some (.f2 .oraZeroPage), some (.f2 .aslZeroPage), none,
   some (.f1 .phpImplied), some (.f2 .oraImmediate), some (.f1 .aslImplied), none,
   none, some (.f3 .oraAbsolute), some (.f3 .aslAbsolute), none]

/-- Row 1 of the opcode map: opcodes 10 to 1F (30_encoding.md R99). -/
def opcodeRow1 : List (Option Format) :=
  [some (.f2 .bplRelative), some (.f2 .oraPostIndexedIndirectY), none, none,
   none, some (.f2 .oraZeroPageX), some (.f2 .aslZeroPageX), none,
   some (.f1 .clcImplied), some (.f3 .oraAbsoluteY), none, none,
   none, some (.f3 .oraAbsoluteX), some (.f3 .aslAbsoluteX), none]

/-- Row 2 of the opcode map: opcodes 20 to 2F (30_encoding.md R99). -/
def opcodeRow2 : List (Option Format) :=
  [some (.f3 .jsrAbsolute), some (.f2 .andPreIndexedIndirectX), none, none,
   some (.f2 .bitZeroPage), some (.f2 .andZeroPage), some (.f2 .rolZeroPage), none,
   some (.f1 .plpImplied), some (.f2 .andImmediate), some (.f1 .rolImplied), none,
   some (.f3 .bitAbsolute), some (.f3 .andAbsolute), some (.f3 .rolAbsolute), none]

/-- Row 3 of the opcode map: opcodes 30 to 3F (30_encoding.md R99). -/
def opcodeRow3 : List (Option Format) :=
  [some (.f2 .bmiRelative), some (.f2 .andPostIndexedIndirectY), none, none,
   none, some (.f2 .andZeroPageX), some (.f2 .rolZeroPageX), none,
   some (.f1 .secImplied), some (.f3 .andAbsoluteY), none, none,
   none, some (.f3 .andAbsoluteX), some (.f3 .rolAbsoluteX), none]

/-- Row 4 of the opcode map: opcodes 40 to 4F (30_encoding.md R99). -/
def opcodeRow4 : List (Option Format) :=
  [some (.f1 .rtiImplied), some (.f2 .eorPreIndexedIndirectX), none, none,
   none, some (.f2 .eorZeroPage), some (.f2 .lsrZeroPage), none,
   some (.f1 .phaImplied), some (.f2 .eorImmediate), some (.f1 .lsrImplied), none,
   some (.f3 .jmpAbsolute), some (.f3 .eorAbsolute), some (.f3 .lsrAbsolute), none]

/-- Row 5 of the opcode map: opcodes 50 to 5F (30_encoding.md R99). -/
def opcodeRow5 : List (Option Format) :=
  [some (.f2 .bvcRelative), some (.f2 .eorPostIndexedIndirectY), none, none,
   none, some (.f2 .eorZeroPageX), some (.f2 .lsrZeroPageX), none,
   some (.f1 .cliImplied), some (.f3 .eorAbsoluteY), none, none,
   none, some (.f3 .eorAbsoluteX), some (.f3 .lsrAbsoluteX), none]

/-- Row 6 of the opcode map: opcodes 60 to 6F (30_encoding.md R99). -/
def opcodeRow6 : List (Option Format) :=
  [some (.f1 .rtsImplied), some (.f2 .adcPreIndexedIndirectX), none, none,
   none, some (.f2 .adcZeroPage), some (.f2 .rorZeroPage), none,
   some (.f1 .plaImplied), some (.f2 .adcImmediate), some (.f1 .rorImplied), none,
   some (.f3 .jmpIndirect), some (.f3 .adcAbsolute), some (.f3 .rorAbsolute), none]

/-- Row 7 of the opcode map: opcodes 70 to 7F (30_encoding.md R99). -/
def opcodeRow7 : List (Option Format) :=
  [some (.f2 .bvsRelative), some (.f2 .adcPostIndexedIndirectY), none, none,
   none, some (.f2 .adcZeroPageX), some (.f2 .rorZeroPageX), none,
   some (.f1 .seiImplied), some (.f3 .adcAbsoluteY), none, none,
   none, some (.f3 .adcAbsoluteX), some (.f3 .rorAbsoluteX), none]

/-- Row 8 of the opcode map: opcodes 80 to 8F (30_encoding.md R99). -/
def opcodeRow8 : List (Option Format) :=
  [none, some (.f2 .staPreIndexedIndirectX), none, none,
   some (.f2 .styZeroPage), some (.f2 .staZeroPage), some (.f2 .stxZeroPage), none,
   some (.f1 .deyImplied), none, some (.f1 .txaImplied), none,
   some (.f3 .styAbsolute), some (.f3 .staAbsolute), some (.f3 .stxAbsolute), none]

/-- Row 9 of the opcode map: opcodes 90 to 9F (30_encoding.md R99). -/
def opcodeRow9 : List (Option Format) :=
  [some (.f2 .bccRelative), some (.f2 .staPostIndexedIndirectY), none, none,
   some (.f2 .styZeroPageX), some (.f2 .staZeroPageX), some (.f2 .stxZeroPageY), none,
   some (.f1 .tyaImplied), some (.f3 .staAbsoluteY), some (.f1 .txsImplied), none,
   none, some (.f3 .staAbsoluteX), none, none]

/-- Row A of the opcode map: opcodes A0 to AF (30_encoding.md R99). -/
def opcodeRowA : List (Option Format) :=
  [some (.f2 .ldyImmediate), some (.f2 .ldaPreIndexedIndirectX), some (.f2 .ldxImmediate), none,
   some (.f2 .ldyZeroPage), some (.f2 .ldaZeroPage), some (.f2 .ldxZeroPage), none,
   some (.f1 .tayImplied), some (.f2 .ldaImmediate), some (.f1 .taxImplied), none,
   some (.f3 .ldyAbsolute), some (.f3 .ldaAbsolute), some (.f3 .ldxAbsolute), none]

/-- Row B of the opcode map: opcodes B0 to BF (30_encoding.md R99). -/
def opcodeRowB : List (Option Format) :=
  [some (.f2 .bcsRelative), some (.f2 .ldaPostIndexedIndirectY), none, none,
   some (.f2 .ldyZeroPageX), some (.f2 .ldaZeroPageX), some (.f2 .ldxZeroPageY), none,
   some (.f1 .clvImplied), some (.f3 .ldaAbsoluteY), some (.f1 .tsxImplied), none,
   some (.f3 .ldyAbsoluteX), some (.f3 .ldaAbsoluteX), some (.f3 .ldxAbsoluteY), none]

/-- Row C of the opcode map: opcodes C0 to CF (30_encoding.md R99). -/
def opcodeRowC : List (Option Format) :=
  [some (.f2 .cpyImmediate), some (.f2 .cmpPreIndexedIndirectX), none, none,
   some (.f2 .cpyZeroPage), some (.f2 .cmpZeroPage), some (.f2 .decZeroPage), none,
   some (.f1 .inyImplied), some (.f2 .cmpImmediate), some (.f1 .dexImplied), none,
   some (.f3 .cpyAbsolute), some (.f3 .cmpAbsolute), some (.f3 .decAbsolute), none]

/-- Row D of the opcode map: opcodes D0 to DF (30_encoding.md R99). -/
def opcodeRowD : List (Option Format) :=
  [some (.f2 .bneRelative), some (.f2 .cmpPostIndexedIndirectY), none, none,
   none, some (.f2 .cmpZeroPageX), some (.f2 .decZeroPageX), none,
   some (.f1 .cldImplied), some (.f3 .cmpAbsoluteY), none, none,
   none, some (.f3 .cmpAbsoluteX), some (.f3 .decAbsoluteX), none]

/-- Row E of the opcode map: opcodes E0 to EF (30_encoding.md R99). -/
def opcodeRowE : List (Option Format) :=
  [some (.f2 .cpxImmediate), some (.f2 .sbcPreIndexedIndirectX), none, none,
   some (.f2 .cpxZeroPage), some (.f2 .sbcZeroPage), some (.f2 .incZeroPage), none,
   some (.f1 .inxImplied), some (.f2 .sbcImmediate), some (.f1 .nopImplied), none,
   some (.f3 .cpxAbsolute), some (.f3 .sbcAbsolute), some (.f3 .incAbsolute), none]

/-- Row F of the opcode map: opcodes F0 to FF (30_encoding.md R99). -/
def opcodeRowF : List (Option Format) :=
  [some (.f2 .beqRelative), some (.f2 .sbcPostIndexedIndirectY), none, none,
   none, some (.f2 .sbcZeroPageX), some (.f2 .incZeroPageX), none,
   some (.f1 .sedImplied), some (.f3 .sbcAbsoluteY), none, none,
   none, some (.f3 .sbcAbsoluteX), some (.f3 .incAbsoluteX), none]

/-- The opcode map of 30_encoding.md R99: rows by high nibble, columns by low nibble. -/
def opcodeMap : List (List (Option Format)) :=
  [opcodeRow0, opcodeRow1, opcodeRow2, opcodeRow3, opcodeRow4, opcodeRow5, opcodeRow6, opcodeRow7,
   opcodeRow8, opcodeRow9, opcodeRowA, opcodeRowB, opcodeRowC, opcodeRowD, opcodeRowE, opcodeRowF]

/-- `DecodeTable[op]`; none for the 105 illegal opcode values (30_encoding.md R99, R100). -/
def opcodeFormat (op : Byte) : Option Format :=
  (opcodeMap.getD (op.toNat / 16) []).getD (op.toNat % 16) none

/-- Why a list of bytes is not an instruction. `illegalOpcode` is the spec's (30_encoding.md R100);
`truncated` is the model's, for a list that ends inside an instruction (log 18), which no fetch meets. -/
inductive Reject where
  | illegalOpcode (op : Byte)
  | truncated
  deriving DecidableEq, Repr

/-- Decode the instruction at the head of a list of bytes, and give the bytes after it
(30_encoding.md R95, R97). -/
def decode : List Byte → Except Reject (Instr × List Byte)
  | [] => .error .truncated
  | op :: bytes =>
    match opcodeFormat op, bytes with
    | none, _ => .error (.illegalOpcode op)
    | some (.f1 i), rest => .ok (i, rest)
    | some (.f2 build), byte1 :: rest => .ok (build byte1, rest)
    | some (.f3 build), byte1 :: byte2 :: rest => .ok (build (fromBytes byte1 byte2), rest)
    | some (.f2 _), [] => .error .truncated
    | some (.f3 _), [] => .error .truncated
    | some (.f3 _), [_] => .error .truncated

/-- The opcode byte of an instruction (the `match` of its row of spec/opcode_table.json). -/
def Instr.opcode : Instr → Byte
  | .adcImmediate _ => 0x69
  | .adcZeroPage _ => 0x65
  | .adcZeroPageX _ => 0x75
  | .adcAbsolute _ => 0x6D
  | .adcAbsoluteX _ => 0x7D
  | .adcAbsoluteY _ => 0x79
  | .adcPreIndexedIndirectX _ => 0x61
  | .adcPostIndexedIndirectY _ => 0x71
  | .andImmediate _ => 0x29
  | .andZeroPage _ => 0x25
  | .andZeroPageX _ => 0x35
  | .andAbsolute _ => 0x2D
  | .andAbsoluteX _ => 0x3D
  | .andAbsoluteY _ => 0x39
  | .andPreIndexedIndirectX _ => 0x21
  | .andPostIndexedIndirectY _ => 0x31
  | .aslZeroPage _ => 0x06
  | .aslZeroPageX _ => 0x16
  | .aslAbsolute _ => 0x0E
  | .aslAbsoluteX _ => 0x1E
  | .aslImplied => 0x0A
  | .bccRelative _ => 0x90
  | .bcsRelative _ => 0xB0
  | .beqRelative _ => 0xF0
  | .bitZeroPage _ => 0x24
  | .bitAbsolute _ => 0x2C
  | .bmiRelative _ => 0x30
  | .bneRelative _ => 0xD0
  | .bplRelative _ => 0x10
  | .brkImplied => 0x00
  | .bvcRelative _ => 0x50
  | .bvsRelative _ => 0x70
  | .clcImplied => 0x18
  | .cldImplied => 0xD8
  | .cliImplied => 0x58
  | .clvImplied => 0xB8
  | .cmpImmediate _ => 0xC9
  | .cmpZeroPage _ => 0xC5
  | .cmpZeroPageX _ => 0xD5
  | .cmpAbsolute _ => 0xCD
  | .cmpAbsoluteX _ => 0xDD
  | .cmpAbsoluteY _ => 0xD9
  | .cmpPreIndexedIndirectX _ => 0xC1
  | .cmpPostIndexedIndirectY _ => 0xD1
  | .cpxImmediate _ => 0xE0
  | .cpxZeroPage _ => 0xE4
  | .cpxAbsolute _ => 0xEC
  | .cpyImmediate _ => 0xC0
  | .cpyZeroPage _ => 0xC4
  | .cpyAbsolute _ => 0xCC
  | .decZeroPage _ => 0xC6
  | .decZeroPageX _ => 0xD6
  | .decAbsolute _ => 0xCE
  | .decAbsoluteX _ => 0xDE
  | .dexImplied => 0xCA
  | .deyImplied => 0x88
  | .eorImmediate _ => 0x49
  | .eorZeroPage _ => 0x45
  | .eorZeroPageX _ => 0x55
  | .eorAbsolute _ => 0x4D
  | .eorAbsoluteX _ => 0x5D
  | .eorAbsoluteY _ => 0x59
  | .eorPreIndexedIndirectX _ => 0x41
  | .eorPostIndexedIndirectY _ => 0x51
  | .incZeroPage _ => 0xE6
  | .incZeroPageX _ => 0xF6
  | .incAbsolute _ => 0xEE
  | .incAbsoluteX _ => 0xFE
  | .inxImplied => 0xE8
  | .inyImplied => 0xC8
  | .jmpAbsolute _ => 0x4C
  | .jmpIndirect _ => 0x6C
  | .jsrAbsolute _ => 0x20
  | .ldaImmediate _ => 0xA9
  | .ldaZeroPage _ => 0xA5
  | .ldaZeroPageX _ => 0xB5
  | .ldaAbsolute _ => 0xAD
  | .ldaAbsoluteX _ => 0xBD
  | .ldaAbsoluteY _ => 0xB9
  | .ldaPreIndexedIndirectX _ => 0xA1
  | .ldaPostIndexedIndirectY _ => 0xB1
  | .ldxImmediate _ => 0xA2
  | .ldxZeroPage _ => 0xA6
  | .ldxZeroPageY _ => 0xB6
  | .ldxAbsolute _ => 0xAE
  | .ldxAbsoluteY _ => 0xBE
  | .ldyImmediate _ => 0xA0
  | .ldyZeroPage _ => 0xA4
  | .ldyZeroPageX _ => 0xB4
  | .ldyAbsolute _ => 0xAC
  | .ldyAbsoluteX _ => 0xBC
  | .lsrZeroPage _ => 0x46
  | .lsrZeroPageX _ => 0x56
  | .lsrAbsolute _ => 0x4E
  | .lsrAbsoluteX _ => 0x5E
  | .lsrImplied => 0x4A
  | .nopImplied => 0xEA
  | .oraImmediate _ => 0x09
  | .oraZeroPage _ => 0x05
  | .oraZeroPageX _ => 0x15
  | .oraAbsolute _ => 0x0D
  | .oraAbsoluteX _ => 0x1D
  | .oraAbsoluteY _ => 0x19
  | .oraPreIndexedIndirectX _ => 0x01
  | .oraPostIndexedIndirectY _ => 0x11
  | .phaImplied => 0x48
  | .phpImplied => 0x08
  | .plaImplied => 0x68
  | .plpImplied => 0x28
  | .rolZeroPage _ => 0x26
  | .rolZeroPageX _ => 0x36
  | .rolAbsolute _ => 0x2E
  | .rolAbsoluteX _ => 0x3E
  | .rolImplied => 0x2A
  | .rorZeroPage _ => 0x66
  | .rorZeroPageX _ => 0x76
  | .rorAbsolute _ => 0x6E
  | .rorAbsoluteX _ => 0x7E
  | .rorImplied => 0x6A
  | .rtiImplied => 0x40
  | .rtsImplied => 0x60
  | .sbcImmediate _ => 0xE9
  | .sbcZeroPage _ => 0xE5
  | .sbcZeroPageX _ => 0xF5
  | .sbcAbsolute _ => 0xED
  | .sbcAbsoluteX _ => 0xFD
  | .sbcAbsoluteY _ => 0xF9
  | .sbcPreIndexedIndirectX _ => 0xE1
  | .sbcPostIndexedIndirectY _ => 0xF1
  | .secImplied => 0x38
  | .sedImplied => 0xF8
  | .seiImplied => 0x78
  | .staZeroPage _ => 0x85
  | .staZeroPageX _ => 0x95
  | .staAbsolute _ => 0x8D
  | .staAbsoluteX _ => 0x9D
  | .staAbsoluteY _ => 0x99
  | .staPreIndexedIndirectX _ => 0x81
  | .staPostIndexedIndirectY _ => 0x91
  | .stxZeroPage _ => 0x86
  | .stxZeroPageY _ => 0x96
  | .stxAbsolute _ => 0x8E
  | .styZeroPage _ => 0x84
  | .styZeroPageX _ => 0x94
  | .styAbsolute _ => 0x8C
  | .taxImplied => 0xAA
  | .tayImplied => 0xA8
  | .tsxImplied => 0xBA
  | .txaImplied => 0x8A
  | .txsImplied => 0x9A
  | .tyaImplied => 0x98

/-- The operand bytes of a mode, low byte first (30_encoding.md R92, R93, R95; D15). -/
def AddressMode.operandBytes : AddressMode → List Byte
  | .implied => []
  | .immediate b => [b]
  | .zeroPage z => [z]
  | .zeroPageX z => [z]
  | .zeroPageY z => [z]
  | .preIndexedIndirectX z => [z]
  | .postIndexedIndirectY z => [z]
  | .relative r => [r]
  | .absolute a => [lo a, hi a]
  | .absoluteX a => [lo a, hi a]
  | .absoluteY a => [lo a, hi a]
  | .indirect a => [lo a, hi a]

/-- The bytes of an instruction, the opcode first (30_encoding.md R90 to R93). -/
def encode (i : Instr) : List Byte := i.opcode :: i.mode.operandBytes

/-- The three bytes at and after an instruction whose first `nbits` bits are `w`, numbered as
spec/opcode_table.json numbers them: byte 0 in bits 7:0, byte 1 in bits 15:8, byte 2 in bits 23:16, and
every bit from `nbits` up zero. Three bytes are the longest instruction. -/
def wordBytes (nbits w : Nat) : List Byte :=
  let v := w % 2 ^ nbits
  [BitVec.ofNat 8 v, BitVec.ofNat 8 (v / 2 ^ 8), BitVec.ofNat 8 (v / 2 ^ 16)]

/-- The instruction the decoder reads from a word of the opcode table; none where it refuses. -/
def decodeTableWord (nbits w : Nat) : Option Instr :=
  match decode (wordBytes nbits w) with
  | .ok (i, _) => some i
  | .error _ => none

end Sys2Proof
end

