-- ==== Sys2Proof/Machine/State.lean ====
section
/-! DEFINITION. The machine's state as plain data (10_state.md R20), the errors it records, the reasons a
step can stop, and the state after construction. -/

namespace Sys2Proof.Machine

/-- The memory behind the block's read and write capability (20_memory.md R50 to R52): address and byte
pairs in the one canonical form that `Memory.wf` states. -/
abbrev Memory := List Host.Cell

/-- The errors of the block, each with the information it records (60_exceptions.md R300 to R303,
10_state.md R38). -/
inductive BlockError where
  /-- The mnemonic has no cost-table row for the mode, or the mode cannot be resolved (R301). -/
  | unsupportedAddressingMode (m : Mnemonic) (mode : AddressMode)
  /-- The mnemonic is recognised and has no semantic function (R302). -/
  | notYetImplemented (m : Mnemonic)
  /-- The opcode byte is not in the opcode map (R303). -/
  | illegalOpcode (op : Byte)
  deriving DecidableEq, Repr

/-- Why the machine stops. -/
inductive Fault where
  /-- `execute` or `step` was asked for a step while FAULT holds `e`: the block takes none
  (10_state.md R38, 30_encoding.md R106, R110). Raised by `execute` and `stepWith`, and so by every
  meaning and by `step`, before anything is read. Safe: the spec has no transition there. -/
  | stopped (e : BlockError)
  deriving DecidableEq, Repr

/-- Why the model gives a case no meaning. -/
inductive Refusal where
  /-- An instruction whose arm of `exec` has no meaning yet, by its mnemonic. No arm uses it. Safe. -/
  | notModelled (mnemonic : String)
  /-- ADC with P.D = 1 under `DecimalAdc = Refuse`: the spec's REFUSED (40_adc_and.md R152, D6). Raised by
  `adc`. Safe: the model claims nothing there. The active parameter is `Binary`, under which no
  instruction raises it (log 4). -/
  | decimalAdc
  deriving DecidableEq, Repr

/-- The block's state (10_state.md R20) and the memory it reaches (20_memory.md R52; log 2). -/
structure State where
  /-- The accumulator A (10_state.md R21). -/
  a : Byte
  /-- The index register X (R22). -/
  x : Byte
  /-- The index register Y (R23). -/
  y : Byte
  /-- The stack pointer SP (R24). -/
  sp : Byte
  /-- The program counter PC (R25). -/
  pc : Addr
  /-- The status byte P (R26), whose bits are the flags. -/
  p : Byte
  /-- The cycle counter CYC (R37). -/
  cyc : Cycles
  /-- The fault record FAULT (R38). -/
  fault : Option BlockError
  /-- The flat 65536-byte memory (20_memory.md R52). -/
  mem : Memory
  deriving DecidableEq, Repr

/-- The outcome of a step. -/
abbrev StepOutcome := Host.Outcome State Fault Refusal

/-- The state after construction (70_reset_and_hazards.md R350; log 7), with a fresh reference backend,
which holds 0x00 at every address (R352; log 8). -/
def State.reset : State where
  a := 0x00
  x := 0x00
  y := 0x00
  sp := 0x00
  pc := 0x0000
  p := 0x00
  cyc := 0
  fault := none
  mem := []

end Sys2Proof.Machine
end

