-- ==== Sys2Proof/Machine/Ops.lean ====
section
/-! DEFINITION. The named operations over memory and registers, the fetch, and raising an error, which is
this block's whole exception entry (60_exceptions.md R306, R307). There is no return from an error to
define (R308), no stack and no vector. -/

namespace Sys2Proof.Machine

/-- What an unlisted address reads as: the reference backend is zero-initialized (20_memory.md R52,
70_reset_and_hazards.md R352; log 8). -/
def unlistedByte : Byte := 0x00

/-- The canonical form: addresses of the 16-bit space, strictly rising, none holding what an unlisted
address reads as. -/
abbrev Memory.wf (m : Memory) : Prop :=
  m.Pairwise (fun c d => c.1 < d.1) ∧ ∀ c ∈ m, c.1 < 65536 ∧ c.2 ≠ unlistedByte

/-- The byte listed under a key, or the unlisted byte. -/
def Memory.readAt : Memory → Nat → Byte
  | [], _ => unlistedByte
  | (b, v) :: m, k => if b = k then v else Memory.readAt m k

/-- The memory without an entry for a key. -/
def Memory.erase (m : Memory) (k : Nat) : Memory :=
  m.filter (fun c => c.1 != k)

/-- The memory with an entry for a key, in its place in the order. -/
def Memory.insert : Memory → Nat → Byte → Memory
  | [], k, v => [(k, v)]
  | (b, w) :: m, k, v =>
    if k < b then (k, v) :: (b, w) :: m
    else if b = k then (k, v) :: m
    else (b, w) :: Memory.insert m k v

/-- `MemRead(addr, 1)`: the byte at an address; memory is unchanged (00_scope.md R13, 20_memory.md R50,
R57). Every address is valid (R51, R55). -/
def Memory.read (m : Memory) (addr : Addr) : Byte := m.readAt addr.toNat

/-- `MemWrite(addr, 1, v)` (00_scope.md R13, 20_memory.md R50). -/
def Memory.write (m : Memory) (addr : Addr) (v : Byte) : Memory :=
  if v = unlistedByte then m.erase addr.toNat else m.insert addr.toNat v

/-- `MemRead16(p)`: the low byte at `p`, the high byte at `p + 1` modulo 65536 (20_memory.md R56; log 15). -/
def Memory.read16 (m : Memory) (p : Addr) : Addr := fromBytes (m.read p) (m.read (p + 1))

/-- Bytes placed at consecutive addresses, wrapping at the top: how the host puts a program in memory
before a run (70_reset_and_hazards.md R354; log 9). -/
def Memory.load : Memory → Addr → List Byte → Memory
  | m, _, [] => m
  | m, addr, v :: vs => Memory.load (m.write addr v) (addr + 1) vs

/-- The state a run starts from: any `InitialState` and `InitialMemory`, CYC = 0 and FAULT = None
(00_scope.md R9, 70_reset_and_hazards.md R351). -/
def State.start (a x y sp : Byte) (pc : Addr) (p : Byte) (mem : Memory) : State where
  a := a
  x := x
  y := y
  sp := sp
  pc := pc
  p := p
  cyc := 0
  fault := none
  mem := mem

/-- `A <- v` (00_scope.md R15). -/
def State.setA (s : State) (v : Byte) : State := { s with a := v }

/-- `P <- v` (00_scope.md R15). -/
def State.setP (s : State) (v : Byte) : State := { s with p := v }

/-- `MemWrite(addr, 1, v)` on the state's memory. -/
def State.store (s : State) (addr : Addr) (v : Byte) : State := { s with mem := s.mem.write addr v }

/-- `raise E`: FAULT records the error and nothing else changes. No register is saved, no mode or flag
changes and PC stays at the failing instruction (60_exceptions.md R306, R307, 00_scope.md R14; log 1). -/
def State.raise (s : State) (e : BlockError) : State := { s with fault := some e }

/-- Steps 5 and 6 of the engine: PC advances by the row's length and CYC by its base cycles and the extra
cycle, both wrapping (30_encoding.md R106, 10_state.md R25, R37). -/
def State.retire (s : State) (k : Nat) (cycles : Nat) : State :=
  { s with pc := s.pc + BitVec.ofNat 16 k, cyc := s.cyc + BitVec.ofNat 64 cycles }

/-- The cause code of the fault record (60_exceptions.md R304). -/
def faultCode : Option BlockError → Nat
  | none => 0
  | some (.unsupportedAddressingMode _ _) => 1
  | some (.notYetImplemented _) => 2
  | some (.illegalOpcode _) => 3

/-- The decoder of the block on memory at `pc` (30_encoding.md R97): the opcode byte, then the operand
bytes of its format at the next addresses modulo 65536. It changes nothing. -/
def fetch (mem : Memory) (pc : Addr) : Except BlockError Instr :=
  match opcodeFormat (mem.read pc) with
  | none => .error (.illegalOpcode (mem.read pc))
  | some (.f1 i) => .ok i
  | some (.f2 build) => .ok (build (mem.read (pc + 1)))
  | some (.f3 build) => .ok (build (fromBytes (mem.read (pc + 1)) (mem.read (pc + 2))))

end Sys2Proof.Machine
end

