-- ==== Sys2Proof/Machine/Decoder.lean ====
section
/-! DEFINITION. The decoder for any parameters: the opcode bytes and lengths of the table decide what it reads
(00_scope.md R8, 30_encoding.md R97). With the active parameters it is the `fetch` of Machine/Ops.lean, which is
written from the opcode map of R99. -/

namespace Sys2Proof.Machine

/-- `DecodeTable[op]`: the first row with that opcode byte, the rows of R101 before those of R102
(30_encoding.md R97; log 26). -/
def decodeRow (cfg : Config) (op : Byte) : Option DecodeRow :=
  (cfg.costTable.map CostRow.decodeRow ++ cfg.recognisedTable).find? (fun r => r.opcode == op)

/-- `build(kind, b1, b2)`, by the table of 30_encoding.md R95. -/
def buildMode (kind : Variant) (b1 b2 : Byte) : AddressMode :=
  match kind with
  | .implied => .implied
  | .immediate => .immediate b1
  | .zeroPage => .zeroPage b1
  | .zeroPageX => .zeroPageX b1
  | .zeroPageY => .zeroPageY b1
  | .preIndexedIndirectX => .preIndexedIndirectX b1
  | .postIndexedIndirectY => .postIndexedIndirectY b1
  | .relative => .relative b1
  | .absolute => .absolute (fromBytes b1 b2)
  | .absoluteX => .absoluteX (fromBytes b1 b2)
  | .absoluteY => .absoluteY (fromBytes b1 b2)
  | .indirect => .indirect (fromBytes b1 b2)

/-- `decode()` at `pc` (30_encoding.md R97): operand byte 1 is read when the row's length is at least 2, byte 2 when
it is 3, and a byte that was not read is free (log 26). It changes nothing. -/
def decodeAt (cfg : Config) (mem : Memory) (pc : Addr) (cyc : Cycles) :
    Except BlockError (Mnemonic × AddressMode) :=
  let op := mem.read pc
  match decodeRow cfg op with
  | none => .error (.illegalOpcode op)
  | some r =>
    let b1 := if 2 ≤ r.bytes then mem.read (pc + 1) else Config.unreadOperand op pc cyc 1
    let b2 := if r.bytes = 3 then mem.read (pc + 2) else Config.unreadOperand op pc cyc 2
    .ok (r.mnemonic, buildMode r.variant b1 b2)

end Sys2Proof.Machine
end

