-- ==== Sys2Proof/Machine/Flags.lean ====
section
/-! DEFINITION. The status_flag_register and every flag computation of the spec (10_state.md R26 to R36,
40_adc_and.md R150, R152, R153, 41_asl.md R160, R161). -/

namespace Sys2Proof.Machine

/-- The named flags of P (10_state.md R27). Bit 5 is unused and has no name (R29). -/
inductive Flag where
  | N | V | B | D | I | Z | C
  deriving DecidableEq, Repr

/-- The bit position of a flag (10_state.md R27). -/
def Flag.bit : Flag → Nat
  | .N => 7
  | .V => 6
  | .B => 4
  | .D => 3
  | .I => 2
  | .Z => 1
  | .C => 0

/-- `get(f)` (10_state.md R28). -/
def getFlag (f : Flag) (p : Byte) : Bool := p.getLsbD f.bit

/-- `set(f, b)`: the flag's bit becomes `b`, the other seven bits stay (10_state.md R28). -/
def setFlag (f : Flag) (b : Bool) (p : Byte) : Byte :=
  if b then p ||| (1#8 <<< f.bit) else p &&& ~~~(1#8 <<< f.bit)

/-- `clear(f)`, which is `set(f, false)` (10_state.md R28). -/
def clearFlag (f : Flag) (p : Byte) : Byte := setFlag f false p

/-- Bit 5 of P, which no instruction reads or writes (10_state.md R29; log 19). -/
def reservedBit (p : Byte) : Bool := p.getLsbD 5

/-- `setNZ(r)` (40_adc_and.md R150). -/
def setNZ (r : Byte) (p : Byte) : Byte := setFlag .Z (r == 0x00) (setFlag .N (r.getLsbD 7) p)

/-- ADC's exact sum, 0 to 511 (40_adc_and.md R152). -/
def adcSum (acc val : Byte) (c : Bool) : Nat := acc.toNat + val.toNat + c.toNat

/-- ADC's result, bits 7:0 of the sum. -/
def adcResult (acc val : Byte) (c : Bool) : Byte := BitVec.ofNat 8 (adcSum acc val c)

/-- The carry out of bit 7, `c7 = sum[8]`. -/
def adcCarry (acc val : Byte) (c : Bool) : Bool := (adcSum acc val c).testBit 8

/-- `V = c6 XOR c7`, where `c6` is bit 7 of the exact sum of the low seven bits and the carry. -/
def adcOverflow (acc val : Byte) (c : Bool) : Bool :=
  let ovfIn := (acc &&& 0x7F).toNat + (val &&& 0x7F).toNat + c.toNat
  ovfIn.testBit 7 ^^ adcCarry acc val c

/-- P after ADC: C and V, then N and Z from the result (40_adc_and.md R152). -/
def adcFlags (acc val : Byte) (p : Byte) : Byte :=
  let c := getFlag .C p
  setNZ (adcResult acc val c) (setFlag .V (adcOverflow acc val c) (setFlag .C (adcCarry acc val c) p))

/-- ASL's result, `(v << 1) & 0xFF` (41_asl.md R160, R161). -/
def aslResult (v : Byte) : Byte := v <<< 1

/-- P after ASL of `v`: C takes bit 7 of `v` under `Canonical` and stays under `AsWritten`; then N and Z
from the result (41_asl.md R160, R161; log 3). -/
def aslFlags (cfg : Config) (v : Byte) (p : Byte) : Byte :=
  match cfg.aslCarry with
  | .canonical => setNZ (aslResult v) (setFlag .C (v.getLsbD 7) p)
  | .asWritten => setNZ (aslResult v) p

end Sys2Proof.Machine
end

