-- ==== Sys2Proof/Machine/Operands.lean ====
section
/-! DEFINITION. The address_mode_resolver (20_memory.md R70 to R88). It reads X, Y and memory and writes
nothing (R88). The extra cycle is 0 or 1. -/

namespace Sys2Proof.Machine

/-- `add_check_page_cross(a, d)`: the wrapped sum, and whether its high byte changed (20_memory.md R72). -/
def addCheckPageCross (a : Addr) (d : Byte) : Addr × Bool :=
  let s := a + d.setWidth 16
  (s, hi s != hi a)

/-- `upgrade(z)`: the address in page 0 (20_memory.md R73). -/
def upgrade (z : Byte) : Addr := fromBytes z 0x00

/-- `wrapping_add(z, d)`, which stays within page 0 (20_memory.md R73). -/
def zeroPageAdd (z d : Byte) : Byte := z + d

/-- An indexed address with its extra cycle: 1 when the page is crossed, else 0 (20_memory.md R80, R81). -/
def indexed (a : Addr) (d : Byte) : Addr × Nat :=
  let (ea, crossed) := addCheckPageCross a d
  (ea, crossed.toNat)

/-- The address of the pointer a pointer mode reads (20_memory.md R83, R84); none for the other modes. -/
def pointerAddr (mode : AddressMode) (x : Byte) : Option Addr :=
  match mode with
  | .preIndexedIndirectX z => some (upgrade (zeroPageAdd z x))
  | .postIndexedIndirectY z => some (upgrade z)
  | .immediate _ => none
  | .zeroPage _ => none
  | .zeroPageX _ => none
  | .zeroPageY _ => none
  | .absolute _ => none
  | .absoluteX _ => none
  | .absoluteY _ => none
  | .indirect _ => none
  | .relative _ => none
  | .implied => none

/-- `resolve_address(m, mode)`: the effective address and extra cycle, or the error raised
(20_memory.md R74 to R86). Implied has no effective address and the spec never asks for one (R86); the model
answers as for Immediate (log 16). -/
def resolveAddress (m : Mnemonic) (mode : AddressMode) (x y : Byte) (mem : Memory) :
    Except BlockError (Addr × Nat) :=
  match mode with
  | .immediate b => .error (.unsupportedAddressingMode m (.immediate b))
  | .zeroPage z => .ok (upgrade z, 0)
  | .zeroPageX z => .ok (upgrade (zeroPageAdd z x), 0)
  | .zeroPageY z => .error (.unsupportedAddressingMode m (.zeroPageY z))
  | .absolute a => .ok (a, 0)
  | .absoluteX a => .ok (indexed a x)
  | .absoluteY a => .ok (indexed a y)
  | .indirect a => .ok (a, 0)
  | .preIndexedIndirectX z => .ok (mem.read16 (upgrade (zeroPageAdd z x)), 0)
  | .postIndexedIndirectY z => .ok (indexed (mem.read16 (upgrade z)) y)
  | .relative r => .error (.unsupportedAddressingMode m (.relative r))
  | .implied => .error (.unsupportedAddressingMode m .implied)

/-- `resolve_value(m, mode)`: the embedded byte of Immediate (20_memory.md R75), else the byte at the
effective address (R87), with the extra cycle. -/
def resolveValue (m : Mnemonic) (mode : AddressMode) (x y : Byte) (mem : Memory) :
    Except BlockError (Byte × Nat) :=
  match mode with
  | .immediate b => .ok (b, 0)
  | other =>
    match resolveAddress m other x y mem with
    | .ok (ea, extra) => .ok (mem.read ea, extra)
    | .error e => .error e

end Sys2Proof.Machine
end

