-- ==== Sys2Proof/Machine/Engine.lean ====
section
/-! DEFINITION. The alu_execution_unit's semantic functions (40_adc_and.md R152, R153, 41_asl.md R160, R161) and
the execution engine around them (30_encoding.md R106, R110), for any parameters. -/

namespace Sys2Proof.Machine

/-- ADC (40_adc_and.md R152). REFUSED is taken before any write (D6; log 21). -/
def adc (cfg : Config) (val : Byte) (s : State) : Except Refusal State :=
  if cfg.decimalAdc = .refuse ∧ getFlag .D s.p = true then .error .decimalAdc
  else .ok ((s.setA (adcResult s.a val (getFlag .C s.p))).setP (adcFlags s.a val s.p))

/-- AND (40_adc_and.md R153). -/
def andA (val : Byte) (s : State) : State :=
  (s.setA (s.a &&& val)).setP (setNZ (s.a &&& val) s.p)

/-- ASL_A, the accumulator form (41_asl.md R160). -/
def aslA (cfg : Config) (s : State) : State :=
  (s.setA (aslResult s.a)).setP (aslFlags cfg s.a s.p)

/-- ASL_M, the read-modify-write of the byte at `ea` (41_asl.md R161). -/
def aslM (cfg : Config) (ea : Addr) (s : State) : State :=
  (s.store ea (aslResult (s.mem.read ea))).setP (aslFlags cfg (s.mem.read ea) s.p)

/-- The two shapes of semantic function: one that takes a resolved operand value, and one that works on A
when the mode is Implied and on the byte at the effective address otherwise (30_encoding.md R106 step 3). -/
inductive SemanticFunction where
  | onValue (f : Byte → State → Except Refusal State)
  | readModifyWrite (onA : State → State) (onMemory : Addr → State → State)

/-- The semantic function of a mnemonic; none for the 53 whose function "does not yet exist in this build"
(60_exceptions.md R302, 42_unimplemented.md R200 to R252). -/
def semanticOf (cfg : Config) : Mnemonic → Option SemanticFunction
  | .ADC => some (.onValue (adc cfg))
  | .AND => some (.onValue (fun val s => .ok (andA val s)))
  | .ASL => some (.readModifyWrite (aslA cfg) (aslM cfg))
  | .BCC | .BCS | .BEQ | .BIT | .BMI | .BNE | .BPL | .BRK | .BVC
  | .BVS | .CLC | .CLD | .CLI | .CLV | .CMP | .CPX | .CPY | .DEC
  | .DEX | .DEY | .EOR | .INC | .INX | .INY | .JMP | .JSR | .LDA
  | .LDX | .LDY | .LSR | .NOP | .ORA | .PHA | .PHP | .PLA | .PLP
  | .ROL | .ROR | .RTI | .RTS | .SBC | .SEC | .SED | .SEI | .STA
  | .STX | .STY | .TAX | .TAY | .TSX | .TXA | .TXS | .TYA => none

/-- What steps 3 and 4 of the engine end in. -/
inductive Applied where
  | done (extra : Nat) (t : State)
  | raised (e : BlockError)
  | refused (r : Refusal)

/-- Steps 3 and 4 of the engine: resolve, then apply the semantic function (30_encoding.md R106). -/
def applySemantic (f : SemanticFunction) (m : Mnemonic) (mode : AddressMode) (s : State) : Applied :=
  match f with
  | .onValue g =>
    match resolveValue m mode s.x s.y s.mem with
    | .error e => .raised e
    | .ok (val, extra) =>
      match g val s with
      | .ok t => .done extra t
      | .error r => .refused r
  | .readModifyWrite onA onMemory =>
    if mode = .implied then .done 0 (onA s)
    else
      match resolveAddress m mode s.x s.y s.mem with
      | .error e => .raised e
      | .ok (ea, extra) => .done extra (onMemory ea s)

/-- `execute(m, mode)`, the engine's one transition (30_encoding.md R106, in the check order of R109): no
step while FAULT is not None (log 1); NotYetImplemented; the cost-table lookup; resolution and the semantic
function; then PC and CYC. -/
def execute (cfg : Config) (m : Mnemonic) (mode : AddressMode) (s : State) : StepOutcome :=
  match s.fault with
  | some e => .fault (.stopped e)
  | none =>
    match semanticOf cfg m with
    | none => .next (s.raise (.notYetImplemented m))
    | some f =>
      match metricsOf cfg m mode.variant with
      | none => .next (s.raise (.unsupportedAddressingMode m mode))
      | some k =>
        match applySemantic f m mode s with
        | .done extra t => .next (t.retire k.bytes (k.cycles + extra))
        | .raised e => .next (s.raise e)
        | .refused r => .refused r

/-- `step()` for any parameters: decode at PC, then execute the pair (30_encoding.md R110). -/
def stepWith (cfg : Config) (s : State) : StepOutcome :=
  match s.fault with
  | some e => .fault (.stopped e)
  | none =>
    match decodeAt cfg s.mem s.pc s.cyc with
    | .error e => .next (s.raise e)
    | .ok (m, mode) => execute cfg m mode s

end Sys2Proof.Machine
end

