-- ==== Sys2Proof/Machine/Alu.lean ====
section
/-! DEFINITION. Meanings of ADC and AND, the instructions on A and an operand
(40_adc_and.md R152, R153). Each is one run of the engine of 30_encoding.md R106
with the active parameters. -/

namespace Sys2Proof.Machine

/-! ADC, add with carry (R152). -/

/-- ADC Immediate: opcode 0x69 (R152). -/
def execAdcImmediate (b : Byte) (s : State) : StepOutcome :=
  execute activeConfig .ADC (.immediate b) s

/-- ADC ZeroPage: opcode 0x65 (R152). -/
def execAdcZeroPage (z : Byte) (s : State) : StepOutcome :=
  execute activeConfig .ADC (.zeroPage z) s

/-- ADC ZeroPageX: opcode 0x75 (R152). -/
def execAdcZeroPageX (z : Byte) (s : State) : StepOutcome :=
  execute activeConfig .ADC (.zeroPageX z) s

/-- ADC Absolute: opcode 0x6D (R152). -/
def execAdcAbsolute (a : Addr) (s : State) : StepOutcome :=
  execute activeConfig .ADC (.absolute a) s

/-- ADC AbsoluteX: opcode 0x7D (R152). -/
def execAdcAbsoluteX (a : Addr) (s : State) : StepOutcome :=
  execute activeConfig .ADC (.absoluteX a) s

/-- ADC AbsoluteY: opcode 0x79 (R152). -/
def execAdcAbsoluteY (a : Addr) (s : State) : StepOutcome :=
  execute activeConfig .ADC (.absoluteY a) s

/-- ADC PreIndexedIndirectX: opcode 0x61 (R152). -/
def execAdcPreIndexedIndirectX (z : Byte) (s : State) : StepOutcome :=
  execute activeConfig .ADC (.preIndexedIndirectX z) s

/-- ADC PostIndexedIndirectY: opcode 0x71 (R152). -/
def execAdcPostIndexedIndirectY (z : Byte) (s : State) : StepOutcome :=
  execute activeConfig .ADC (.postIndexedIndirectY z) s

/-! AND, bitwise and with A (R153). -/

/-- AND Immediate: opcode 0x29 (R153). -/
def execAndImmediate (b : Byte) (s : State) : StepOutcome :=
  execute activeConfig .AND (.immediate b) s

/-- AND ZeroPage: opcode 0x25 (R153). -/
def execAndZeroPage (z : Byte) (s : State) : StepOutcome :=
  execute activeConfig .AND (.zeroPage z) s

/-- AND ZeroPageX: opcode 0x35 (R153). -/
def execAndZeroPageX (z : Byte) (s : State) : StepOutcome :=
  execute activeConfig .AND (.zeroPageX z) s

/-- AND Absolute: opcode 0x2D (R153). -/
def execAndAbsolute (a : Addr) (s : State) : StepOutcome :=
  execute activeConfig .AND (.absolute a) s

/-- AND AbsoluteX: opcode 0x3D (R153). -/
def execAndAbsoluteX (a : Addr) (s : State) : StepOutcome :=
  execute activeConfig .AND (.absoluteX a) s

/-- AND AbsoluteY: opcode 0x39 (R153). -/
def execAndAbsoluteY (a : Addr) (s : State) : StepOutcome :=
  execute activeConfig .AND (.absoluteY a) s

/-- AND PreIndexedIndirectX: opcode 0x21 (R153). -/
def execAndPreIndexedIndirectX (z : Byte) (s : State) : StepOutcome :=
  execute activeConfig .AND (.preIndexedIndirectX z) s

/-- AND PostIndexedIndirectY: opcode 0x31 (R153). -/
def execAndPostIndexedIndirectY (z : Byte) (s : State) : StepOutcome :=
  execute activeConfig .AND (.postIndexedIndirectY z) s

end Sys2Proof.Machine
end

