-- ==== Sys2Proof/Machine/ArithmeticCompare.lean ====
section
/-! DEFINITION. Meanings of the recognised arithmetic, logic, compare, increment and decrement mnemonics.
Each has no semantic function in this block (42_unimplemented.md), so the
engine raises NotYetImplemented for it: a next state in which FAULT records the error and nothing else has
changed (30_encoding.md R106 step 1, 60_exceptions.md R302, R306; log 1). -/

namespace Sys2Proof.Machine

/-! BIT, Bit Test (R203). -/

/-- BIT ZeroPage: opcode 0x24 (R203). -/
def execBitZeroPage (z : Byte) (s : State) : StepOutcome :=
  execute activeConfig .BIT (.zeroPage z) s

/-- BIT Absolute: opcode 0x2C (R203). -/
def execBitAbsolute (a : Addr) (s : State) : StepOutcome :=
  execute activeConfig .BIT (.absolute a) s

/-! CMP, Compare with A (R214). -/

/-- CMP Immediate: opcode 0xC9 (R214). -/
def execCmpImmediate (b : Byte) (s : State) : StepOutcome :=
  execute activeConfig .CMP (.immediate b) s

/-- CMP ZeroPage: opcode 0xC5 (R214). -/
def execCmpZeroPage (z : Byte) (s : State) : StepOutcome :=
  execute activeConfig .CMP (.zeroPage z) s

/-- CMP ZeroPageX: opcode 0xD5 (R214). -/
def execCmpZeroPageX (z : Byte) (s : State) : StepOutcome :=
  execute activeConfig .CMP (.zeroPageX z) s

/-- CMP Absolute: opcode 0xCD (R214). -/
def execCmpAbsolute (a : Addr) (s : State) : StepOutcome :=
  execute activeConfig .CMP (.absolute a) s

/-- CMP AbsoluteX: opcode 0xDD (R214). -/
def execCmpAbsoluteX (a : Addr) (s : State) : StepOutcome :=
  execute activeConfig .CMP (.absoluteX a) s

/-- CMP AbsoluteY: opcode 0xD9 (R214). -/
def execCmpAbsoluteY (a : Addr) (s : State) : StepOutcome :=
  execute activeConfig .CMP (.absoluteY a) s

/-- CMP PreIndexedIndirectX: opcode 0xC1 (R214). -/
def execCmpPreIndexedIndirectX (z : Byte) (s : State) : StepOutcome :=
  execute activeConfig .CMP (.preIndexedIndirectX z) s

/-- CMP PostIndexedIndirectY: opcode 0xD1 (R214). -/
def execCmpPostIndexedIndirectY (z : Byte) (s : State) : StepOutcome :=
  execute activeConfig .CMP (.postIndexedIndirectY z) s

/-! CPX, Compare with X (R215). -/

/-- CPX Immediate: opcode 0xE0 (R215). -/
def execCpxImmediate (b : Byte) (s : State) : StepOutcome :=
  execute activeConfig .CPX (.immediate b) s

/-- CPX ZeroPage: opcode 0xE4 (R215). -/
def execCpxZeroPage (z : Byte) (s : State) : StepOutcome :=
  execute activeConfig .CPX (.zeroPage z) s

/-- CPX Absolute: opcode 0xEC (R215). -/
def execCpxAbsolute (a : Addr) (s : State) : StepOutcome :=
  execute activeConfig .CPX (.absolute a) s

/-! CPY, Compare with Y (R216). -/

/-- CPY Immediate: opcode 0xC0 (R216). -/
def execCpyImmediate (b : Byte) (s : State) : StepOutcome :=
  execute activeConfig .CPY (.immediate b) s

/-- CPY ZeroPage: opcode 0xC4 (R216). -/
def execCpyZeroPage (z : Byte) (s : State) : StepOutcome :=
  execute activeConfig .CPY (.zeroPage z) s

/-- CPY Absolute: opcode 0xCC (R216). -/
def execCpyAbsolute (a : Addr) (s : State) : StepOutcome :=
  execute activeConfig .CPY (.absolute a) s

/-! DEC, Decrement Memory (R217). -/

/-- DEC ZeroPage: opcode 0xC6 (R217). -/
def execDecZeroPage (z : Byte) (s : State) : StepOutcome :=
  execute activeConfig .DEC (.zeroPage z) s

/-- DEC ZeroPageX: opcode 0xD6 (R217). -/
def execDecZeroPageX (z : Byte) (s : State) : StepOutcome :=
  execute activeConfig .DEC (.zeroPageX z) s

/-- DEC Absolute: opcode 0xCE (R217). -/
def execDecAbsolute (a : Addr) (s : State) : StepOutcome :=
  execute activeConfig .DEC (.absolute a) s

/-- DEC AbsoluteX: opcode 0xDE (R217). -/
def execDecAbsoluteX (a : Addr) (s : State) : StepOutcome :=
  execute activeConfig .DEC (.absoluteX a) s

/-! DEX, Decrement X (R218). -/

/-- DEX Implied: opcode 0xCA (R218). -/
def execDexImplied (s : State) : StepOutcome :=
  execute activeConfig .DEX .implied s

/-! DEY, Decrement Y (R219). -/

/-- DEY Implied: opcode 0x88 (R219). -/
def execDeyImplied (s : State) : StepOutcome :=
  execute activeConfig .DEY .implied s

/-! EOR, Exclusive OR with A (R220). -/

/-- EOR Immediate: opcode 0x49 (R220). -/
def execEorImmediate (b : Byte) (s : State) : StepOutcome :=
  execute activeConfig .EOR (.immediate b) s

/-- EOR ZeroPage: opcode 0x45 (R220). -/
def execEorZeroPage (z : Byte) (s : State) : StepOutcome :=
  execute activeConfig .EOR (.zeroPage z) s

/-- EOR ZeroPageX: opcode 0x55 (R220). -/
def execEorZeroPageX (z : Byte) (s : State) : StepOutcome :=
  execute activeConfig .EOR (.zeroPageX z) s

/-- EOR Absolute: opcode 0x4D (R220). -/
def execEorAbsolute (a : Addr) (s : State) : StepOutcome :=
  execute activeConfig .EOR (.absolute a) s

/-- EOR AbsoluteX: opcode 0x5D (R220). -/
def execEorAbsoluteX (a : Addr) (s : State) : StepOutcome :=
  execute activeConfig .EOR (.absoluteX a) s

/-- EOR AbsoluteY: opcode 0x59 (R220). -/
def execEorAbsoluteY (a : Addr) (s : State) : StepOutcome :=
  execute activeConfig .EOR (.absoluteY a) s

/-- EOR PreIndexedIndirectX: opcode 0x41 (R220). -/
def execEorPreIndexedIndirectX (z : Byte) (s : State) : StepOutcome :=
  execute activeConfig .EOR (.preIndexedIndirectX z) s

/-- EOR PostIndexedIndirectY: opcode 0x51 (R220). -/
def execEorPostIndexedIndirectY (z : Byte) (s : State) : StepOutcome :=
  execute activeConfig .EOR (.postIndexedIndirectY z) s

/-! INC, Increment Memory (R221). -/

/-- INC ZeroPage: opcode 0xE6 (R221). -/
def execIncZeroPage (z : Byte) (s : State) : StepOutcome :=
  execute activeConfig .INC (.zeroPage z) s

/-- INC ZeroPageX: opcode 0xF6 (R221). -/
def execIncZeroPageX (z : Byte) (s : State) : StepOutcome :=
  execute activeConfig .INC (.zeroPageX z) s

/-- INC Absolute: opcode 0xEE (R221). -/
def execIncAbsolute (a : Addr) (s : State) : StepOutcome :=
  execute activeConfig .INC (.absolute a) s

/-- INC AbsoluteX: opcode 0xFE (R221). -/
def execIncAbsoluteX (a : Addr) (s : State) : StepOutcome :=
  execute activeConfig .INC (.absoluteX a) s

/-! INX, Increment X (R222). -/

/-- INX Implied: opcode 0xE8 (R222). -/
def execInxImplied (s : State) : StepOutcome :=
  execute activeConfig .INX .implied s

/-! INY, Increment Y (R223). -/

/-- INY Implied: opcode 0xC8 (R223). -/
def execInyImplied (s : State) : StepOutcome :=
  execute activeConfig .INY .implied s

/-! ORA, OR with A (R231). -/

/-- ORA Immediate: opcode 0x09 (R231). -/
def execOraImmediate (b : Byte) (s : State) : StepOutcome :=
  execute activeConfig .ORA (.immediate b) s

/-- ORA ZeroPage: opcode 0x05 (R231). -/
def execOraZeroPage (z : Byte) (s : State) : StepOutcome :=
  execute activeConfig .ORA (.zeroPage z) s

/-- ORA ZeroPageX: opcode 0x15 (R231). -/
def execOraZeroPageX (z : Byte) (s : State) : StepOutcome :=
  execute activeConfig .ORA (.zeroPageX z) s

/-- ORA Absolute: opcode 0x0D (R231). -/
def execOraAbsolute (a : Addr) (s : State) : StepOutcome :=
  execute activeConfig .ORA (.absolute a) s

/-- ORA AbsoluteX: opcode 0x1D (R231). -/
def execOraAbsoluteX (a : Addr) (s : State) : StepOutcome :=
  execute activeConfig .ORA (.absoluteX a) s

/-- ORA AbsoluteY: opcode 0x19 (R231). -/
def execOraAbsoluteY (a : Addr) (s : State) : StepOutcome :=
  execute activeConfig .ORA (.absoluteY a) s

/-- ORA PreIndexedIndirectX: opcode 0x01 (R231). -/
def execOraPreIndexedIndirectX (z : Byte) (s : State) : StepOutcome :=
  execute activeConfig .ORA (.preIndexedIndirectX z) s

/-- ORA PostIndexedIndirectY: opcode 0x11 (R231). -/
def execOraPostIndexedIndirectY (z : Byte) (s : State) : StepOutcome :=
  execute activeConfig .ORA (.postIndexedIndirectY z) s

/-! SBC, Subtract with Carry (R240). -/

/-- SBC Immediate: opcode 0xE9 (R240). -/
def execSbcImmediate (b : Byte) (s : State) : StepOutcome :=
  execute activeConfig .SBC (.immediate b) s

/-- SBC ZeroPage: opcode 0xE5 (R240). -/
def execSbcZeroPage (z : Byte) (s : State) : StepOutcome :=
  execute activeConfig .SBC (.zeroPage z) s

/-- SBC ZeroPageX: opcode 0xF5 (R240). -/
def execSbcZeroPageX (z : Byte) (s : State) : StepOutcome :=
  execute activeConfig .SBC (.zeroPageX z) s

/-- SBC Absolute: opcode 0xED (R240). -/
def execSbcAbsolute (a : Addr) (s : State) : StepOutcome :=
  execute activeConfig .SBC (.absolute a) s

/-- SBC AbsoluteX: opcode 0xFD (R240). -/
def execSbcAbsoluteX (a : Addr) (s : State) : StepOutcome :=
  execute activeConfig .SBC (.absoluteX a) s

/-- SBC AbsoluteY: opcode 0xF9 (R240). -/
def execSbcAbsoluteY (a : Addr) (s : State) : StepOutcome :=
  execute activeConfig .SBC (.absoluteY a) s

/-- SBC PreIndexedIndirectX: opcode 0xE1 (R240). -/
def execSbcPreIndexedIndirectX (z : Byte) (s : State) : StepOutcome :=
  execute activeConfig .SBC (.preIndexedIndirectX z) s

/-- SBC PostIndexedIndirectY: opcode 0xF1 (R240). -/
def execSbcPostIndexedIndirectY (z : Byte) (s : State) : StepOutcome :=
  execute activeConfig .SBC (.postIndexedIndirectY z) s

end Sys2Proof.Machine
end

