-- ==== Sys2Proof/Machine/Asl.lean ====
section
/-! DEFINITION. Meanings of ASL on the accumulator and on memory (41_asl.md R160, R161). Each is one run of the engine of 30_encoding.md R106
with the active parameters. -/

namespace Sys2Proof.Machine

/-! ASL, arithmetic shift left (R160, R161). -/

/-- ASL ZeroPage: opcode 0x06 (R161). -/
def execAslZeroPage (z : Byte) (s : State) : StepOutcome :=
  execute activeConfig .ASL (.zeroPage z) s

/-- ASL ZeroPageX: opcode 0x16 (R161). -/
def execAslZeroPageX (z : Byte) (s : State) : StepOutcome :=
  execute activeConfig .ASL (.zeroPageX z) s

/-- ASL Absolute: opcode 0x0E (R161). -/
def execAslAbsolute (a : Addr) (s : State) : StepOutcome :=
  execute activeConfig .ASL (.absolute a) s

/-- ASL AbsoluteX: opcode 0x1E (R161). -/
def execAslAbsoluteX (a : Addr) (s : State) : StepOutcome :=
  execute activeConfig .ASL (.absoluteX a) s

/-- ASL Implied: opcode 0x0A (R160). -/
def execAslImplied (s : State) : StepOutcome :=
  execute activeConfig .ASL .implied s

end Sys2Proof.Machine
end

