-- ==== Sys2Proof/Machine/Branch.lean ====
section
/-! DEFINITION. Meanings of the recognised branches.
Each has no semantic function in this block (42_unimplemented.md), so the
engine raises NotYetImplemented for it: a next state in which FAULT records the error and nothing else has
changed (30_encoding.md R106 step 1, 60_exceptions.md R302, R306; log 1). -/

namespace Sys2Proof.Machine

/-! BCC, Branch on Carry Clear (R200). -/

/-- BCC Relative: opcode 0x90 (R200). -/
def execBccRelative (r : Byte) (s : State) : StepOutcome :=
  execute activeConfig .BCC (.relative r) s

/-! BCS, Branch on Carry Set (R201). -/

/-- BCS Relative: opcode 0xB0 (R201). -/
def execBcsRelative (r : Byte) (s : State) : StepOutcome :=
  execute activeConfig .BCS (.relative r) s

/-! BEQ, Branch on Equal (Z set) (R202). -/

/-- BEQ Relative: opcode 0xF0 (R202). -/
def execBeqRelative (r : Byte) (s : State) : StepOutcome :=
  execute activeConfig .BEQ (.relative r) s

/-! BMI, Branch on Minus (N set) (R204). -/

/-- BMI Relative: opcode 0x30 (R204). -/
def execBmiRelative (r : Byte) (s : State) : StepOutcome :=
  execute activeConfig .BMI (.relative r) s

/-! BNE, Branch on Not Equal (Z clear) (R205). -/

/-- BNE Relative: opcode 0xD0 (R205). -/
def execBneRelative (r : Byte) (s : State) : StepOutcome :=
  execute activeConfig .BNE (.relative r) s

/-! BPL, Branch on Plus (N clear) (R206). -/

/-- BPL Relative: opcode 0x10 (R206). -/
def execBplRelative (r : Byte) (s : State) : StepOutcome :=
  execute activeConfig .BPL (.relative r) s

/-! BVC, Branch on Overflow Clear (R208). -/

/-- BVC Relative: opcode 0x50 (R208). -/
def execBvcRelative (r : Byte) (s : State) : StepOutcome :=
  execute activeConfig .BVC (.relative r) s

/-! BVS, Branch on Overflow Set (R209). -/

/-- BVS Relative: opcode 0x70 (R209). -/
def execBvsRelative (r : Byte) (s : State) : StepOutcome :=
  execute activeConfig .BVS (.relative r) s

end Sys2Proof.Machine
end

