-- ==== Sys2Proof/Machine/Control.lean ====
section
/-! DEFINITION. Meanings of the recognised jumps, calls, returns, BRK and NOP.
Each has no semantic function in this block (42_unimplemented.md), so the
engine raises NotYetImplemented for it: a next state in which FAULT records the error and nothing else has
changed (30_encoding.md R106 step 1, 60_exceptions.md R302, R306; log 1). -/

namespace Sys2Proof.Machine

/-! BRK, Break (software interrupt) (R207). -/

/-- BRK Implied: opcode 0x00 (R207). -/
def execBrkImplied (s : State) : StepOutcome :=
  execute activeConfig .BRK .implied s

/-! JMP, Jump (R224). -/

/-- JMP Absolute: opcode 0x4C (R224). -/
def execJmpAbsolute (a : Addr) (s : State) : StepOutcome :=
  execute activeConfig .JMP (.absolute a) s

/-- JMP Indirect: opcode 0x6C (R224). -/
def execJmpIndirect (a : Addr) (s : State) : StepOutcome :=
  execute activeConfig .JMP (.indirect a) s

/-! JSR, Jump to Subroutine (R225). -/

/-- JSR Absolute: opcode 0x20 (R225). -/
def execJsrAbsolute (a : Addr) (s : State) : StepOutcome :=
  execute activeConfig .JSR (.absolute a) s

/-! NOP, No Operation (R230). -/

/-- NOP Implied: opcode 0xEA (R230). -/
def execNopImplied (s : State) : StepOutcome :=
  execute activeConfig .NOP .implied s

/-! RTI, Return from Interrupt (R238). -/

/-- RTI Implied: opcode 0x40 (R238). -/
def execRtiImplied (s : State) : StepOutcome :=
  execute activeConfig .RTI .implied s

/-! RTS, Return from Subroutine (R239). -/

/-- RTS Implied: opcode 0x60 (R239). -/
def execRtsImplied (s : State) : StepOutcome :=
  execute activeConfig .RTS .implied s

end Sys2Proof.Machine
end

