-- ==== Sys2Proof/Machine/FlagSet.lean ====
section
/-! DEFINITION. Meanings of the recognised flag set and clear mnemonics.
Each has no semantic function in this block (42_unimplemented.md), so the
engine raises NotYetImplemented for it: a next state in which FAULT records the error and nothing else has
changed (30_encoding.md R106 step 1, 60_exceptions.md R302, R306; log 1). -/

namespace Sys2Proof.Machine

/-! CLC, Clear Carry (R210). -/

/-- CLC Implied: opcode 0x18 (R210). -/
def execClcImplied (s : State) : StepOutcome :=
  execute activeConfig .CLC .implied s

/-! CLD, Clear Decimal (R211). -/

/-- CLD Implied: opcode 0xD8 (R211). -/
def execCldImplied (s : State) : StepOutcome :=
  execute activeConfig .CLD .implied s

/-! CLI, Clear Interrupt Disable (R212). -/

/-- CLI Implied: opcode 0x58 (R212). -/
def execCliImplied (s : State) : StepOutcome :=
  execute activeConfig .CLI .implied s

/-! CLV, Clear Overflow (R213). -/

/-- CLV Implied: opcode 0xB8 (R213). -/
def execClvImplied (s : State) : StepOutcome :=
  execute activeConfig .CLV .implied s

/-! SEC, Set Carry (R241). -/

/-- SEC Implied: opcode 0x38 (R241). -/
def execSecImplied (s : State) : StepOutcome :=
  execute activeConfig .SEC .implied s

/-! SED, Set Decimal (R242). -/

/-- SED Implied: opcode 0xF8 (R242). -/
def execSedImplied (s : State) : StepOutcome :=
  execute activeConfig .SED .implied s

/-! SEI, Set Interrupt Disable (R243). -/

/-- SEI Implied: opcode 0x78 (R243). -/
def execSeiImplied (s : State) : StepOutcome :=
  execute activeConfig .SEI .implied s

end Sys2Proof.Machine
end

