-- ==== Sys2Proof/Machine/LoadStore.lean ====
section
/-! DEFINITION. Meanings of the recognised loads and stores.
Each has no semantic function in this block (42_unimplemented.md), so the
engine raises NotYetImplemented for it: a next state in which FAULT records the error and nothing else has
changed (30_encoding.md R106 step 1, 60_exceptions.md R302, R306; log 1). -/

namespace Sys2Proof.Machine

/-! LDA, Load A (R226). -/

/-- LDA Immediate: opcode 0xA9 (R226). -/
def execLdaImmediate (b : Byte) (s : State) : StepOutcome :=
  execute activeConfig .LDA (.immediate b) s

/-- LDA ZeroPage: opcode 0xA5 (R226). -/
def execLdaZeroPage (z : Byte) (s : State) : StepOutcome :=
  execute activeConfig .LDA (.zeroPage z) s

/-- LDA ZeroPageX: opcode 0xB5 (R226). -/
def execLdaZeroPageX (z : Byte) (s : State) : StepOutcome :=
  execute activeConfig .LDA (.zeroPageX z) s

/-- LDA Absolute: opcode 0xAD (R226). -/
def execLdaAbsolute (a : Addr) (s : State) : StepOutcome :=
  execute activeConfig .LDA (.absolute a) s

/-- LDA AbsoluteX: opcode 0xBD (R226). -/
def execLdaAbsoluteX (a : Addr) (s : State) : StepOutcome :=
  execute activeConfig .LDA (.absoluteX a) s

/-- LDA AbsoluteY: opcode 0xB9 (R226). -/
def execLdaAbsoluteY (a : Addr) (s : State) : StepOutcome :=
  execute activeConfig .LDA (.absoluteY a) s

/-- LDA PreIndexedIndirectX: opcode 0xA1 (R226). -/
def execLdaPreIndexedIndirectX (z : Byte) (s : State) : StepOutcome :=
  execute activeConfig .LDA (.preIndexedIndirectX z) s

/-- LDA PostIndexedIndirectY: opcode 0xB1 (R226). -/
def execLdaPostIndexedIndirectY (z : Byte) (s : State) : StepOutcome :=
  execute activeConfig .LDA (.postIndexedIndirectY z) s

/-! LDX, Load X (R227). -/

/-- LDX Immediate: opcode 0xA2 (R227). -/
def execLdxImmediate (b : Byte) (s : State) : StepOutcome :=
  execute activeConfig .LDX (.immediate b) s

/-- LDX ZeroPage: opcode 0xA6 (R227). -/
def execLdxZeroPage (z : Byte) (s : State) : StepOutcome :=
  execute activeConfig .LDX (.zeroPage z) s

/-- LDX ZeroPageY: opcode 0xB6 (R227). -/
def execLdxZeroPageY (z : Byte) (s : State) : StepOutcome :=
  execute activeConfig .LDX (.zeroPageY z) s

/-- LDX Absolute: opcode 0xAE (R227). -/
def execLdxAbsolute (a : Addr) (s : State) : StepOutcome :=
  execute activeConfig .LDX (.absolute a) s

/-- LDX AbsoluteY: opcode 0xBE (R227). -/
def execLdxAbsoluteY (a : Addr) (s : State) : StepOutcome :=
  execute activeConfig .LDX (.absoluteY a) s

/-! LDY, Load Y (R228). -/

/-- LDY Immediate: opcode 0xA0 (R228). -/
def execLdyImmediate (b : Byte) (s : State) : StepOutcome :=
  execute activeConfig .LDY (.immediate b) s

/-- LDY ZeroPage: opcode 0xA4 (R228). -/
def execLdyZeroPage (z : Byte) (s : State) : StepOutcome :=
  execute activeConfig .LDY (.zeroPage z) s

/-- LDY ZeroPageX: opcode 0xB4 (R228). -/
def execLdyZeroPageX (z : Byte) (s : State) : StepOutcome :=
  execute activeConfig .LDY (.zeroPageX z) s

/-- LDY Absolute: opcode 0xAC (R228). -/
def execLdyAbsolute (a : Addr) (s : State) : StepOutcome :=
  execute activeConfig .LDY (.absolute a) s

/-- LDY AbsoluteX: opcode 0xBC (R228). -/
def execLdyAbsoluteX (a : Addr) (s : State) : StepOutcome :=
  execute activeConfig .LDY (.absoluteX a) s

/-! STA, Store A (R244). -/

/-- STA ZeroPage: opcode 0x85 (R244). -/
def execStaZeroPage (z : Byte) (s : State) : StepOutcome :=
  execute activeConfig .STA (.zeroPage z) s

/-- STA ZeroPageX: opcode 0x95 (R244). -/
def execStaZeroPageX (z : Byte) (s : State) : StepOutcome :=
  execute activeConfig .STA (.zeroPageX z) s

/-- STA Absolute: opcode 0x8D (R244). -/
def execStaAbsolute (a : Addr) (s : State) : StepOutcome :=
  execute activeConfig .STA (.absolute a) s

/-- STA AbsoluteX: opcode 0x9D (R244). -/
def execStaAbsoluteX (a : Addr) (s : State) : StepOutcome :=
  execute activeConfig .STA (.absoluteX a) s

/-- STA AbsoluteY: opcode 0x99 (R244). -/
def execStaAbsoluteY (a : Addr) (s : State) : StepOutcome :=
  execute activeConfig .STA (.absoluteY a) s

/-- STA PreIndexedIndirectX: opcode 0x81 (R244). -/
def execStaPreIndexedIndirectX (z : Byte) (s : State) : StepOutcome :=
  execute activeConfig .STA (.preIndexedIndirectX z) s

/-- STA PostIndexedIndirectY: opcode 0x91 (R244). -/
def execStaPostIndexedIndirectY (z : Byte) (s : State) : StepOutcome :=
  execute activeConfig .STA (.postIndexedIndirectY z) s

/-! STX, Store X (R245). -/

/-- STX ZeroPage: opcode 0x86 (R245). -/
def execStxZeroPage (z : Byte) (s : State) : StepOutcome :=
  execute activeConfig .STX (.zeroPage z) s

/-- STX ZeroPageY: opcode 0x96 (R245). -/
def execStxZeroPageY (z : Byte) (s : State) : StepOutcome :=
  execute activeConfig .STX (.zeroPageY z) s

/-- STX Absolute: opcode 0x8E (R245). -/
def execStxAbsolute (a : Addr) (s : State) : StepOutcome :=
  execute activeConfig .STX (.absolute a) s

/-! STY, Store Y (R246). -/

/-- STY ZeroPage: opcode 0x84 (R246). -/
def execStyZeroPage (z : Byte) (s : State) : StepOutcome :=
  execute activeConfig .STY (.zeroPage z) s

/-- STY ZeroPageX: opcode 0x94 (R246). -/
def execStyZeroPageX (z : Byte) (s : State) : StepOutcome :=
  execute activeConfig .STY (.zeroPageX z) s

/-- STY Absolute: opcode 0x8C (R246). -/
def execStyAbsolute (a : Addr) (s : State) : StepOutcome :=
  execute activeConfig .STY (.absolute a) s

end Sys2Proof.Machine
end

