-- ==== Sys2Proof/Machine/ShiftRotate.lean ====
section
/-! DEFINITION. Meanings of the recognised shifts and rotates other than ASL.
Each has no semantic function in this block (42_unimplemented.md), so the
engine raises NotYetImplemented for it: a next state in which FAULT records the error and nothing else has
changed (30_encoding.md R106 step 1, 60_exceptions.md R302, R306; log 1). -/

namespace Sys2Proof.Machine

/-! LSR, Logical Shift Right (R229). -/

/-- LSR ZeroPage: opcode 0x46 (R229). -/
def execLsrZeroPage (z : Byte) (s : State) : StepOutcome :=
  execute activeConfig .LSR (.zeroPage z) s

/-- LSR ZeroPageX: opcode 0x56 (R229). -/
def execLsrZeroPageX (z : Byte) (s : State) : StepOutcome :=
  execute activeConfig .LSR (.zeroPageX z) s

/-- LSR Absolute: opcode 0x4E (R229). -/
def execLsrAbsolute (a : Addr) (s : State) : StepOutcome :=
  execute activeConfig .LSR (.absolute a) s

/-- LSR AbsoluteX: opcode 0x5E (R229). -/
def execLsrAbsoluteX (a : Addr) (s : State) : StepOutcome :=
  execute activeConfig .LSR (.absoluteX a) s

/-- LSR Implied: opcode 0x4A (R229). -/
def execLsrImplied (s : State) : StepOutcome :=
  execute activeConfig .LSR .implied s

/-! ROL, Rotate Left through Carry (R236). -/

/-- ROL ZeroPage: opcode 0x26 (R236). -/
def execRolZeroPage (z : Byte) (s : State) : StepOutcome :=
  execute activeConfig .ROL (.zeroPage z) s

/-- ROL ZeroPageX: opcode 0x36 (R236). -/
def execRolZeroPageX (z : Byte) (s : State) : StepOutcome :=
  execute activeConfig .ROL (.zeroPageX z) s

/-- ROL Absolute: opcode 0x2E (R236). -/
def execRolAbsolute (a : Addr) (s : State) : StepOutcome :=
  execute activeConfig .ROL (.absolute a) s

/-- ROL AbsoluteX: opcode 0x3E (R236). -/
def execRolAbsoluteX (a : Addr) (s : State) : StepOutcome :=
  execute activeConfig .ROL (.absoluteX a) s

/-- ROL Implied: opcode 0x2A (R236). -/
def execRolImplied (s : State) : StepOutcome :=
  execute activeConfig .ROL .implied s

/-! ROR, Rotate Right through Carry (R237). -/

/-- ROR ZeroPage: opcode 0x66 (R237). -/
def execRorZeroPage (z : Byte) (s : State) : StepOutcome :=
  execute activeConfig .ROR (.zeroPage z) s

/-- ROR ZeroPageX: opcode 0x76 (R237). -/
def execRorZeroPageX (z : Byte) (s : State) : StepOutcome :=
  execute activeConfig .ROR (.zeroPageX z) s

/-- ROR Absolute: opcode 0x6E (R237). -/
def execRorAbsolute (a : Addr) (s : State) : StepOutcome :=
  execute activeConfig .ROR (.absolute a) s

/-- ROR AbsoluteX: opcode 0x7E (R237). -/
def execRorAbsoluteX (a : Addr) (s : State) : StepOutcome :=
  execute activeConfig .ROR (.absoluteX a) s

/-- ROR Implied: opcode 0x6A (R237). -/
def execRorImplied (s : State) : StepOutcome :=
  execute activeConfig .ROR .implied s

end Sys2Proof.Machine
end

