-- ==== Sys2Proof/Machine/TransferStack.lean ====
section
/-! DEFINITION. Meanings of the recognised transfers and stack mnemonics.
Each has no semantic function in this block (42_unimplemented.md), so the
engine raises NotYetImplemented for it: a next state in which FAULT records the error and nothing else has
changed (30_encoding.md R106 step 1, 60_exceptions.md R302, R306; log 1). -/

namespace Sys2Proof.Machine

/-! PHA, Push A (R232). -/

/-- PHA Implied: opcode 0x48 (R232). -/
def execPhaImplied (s : State) : StepOutcome :=
  execute activeConfig .PHA .implied s

/-! PHP, Push P (R233). -/

/-- PHP Implied: opcode 0x08 (R233). -/
def execPhpImplied (s : State) : StepOutcome :=
  execute activeConfig .PHP .implied s

/-! PLA, Pull A (R234). -/

/-- PLA Implied: opcode 0x68 (R234). -/
def execPlaImplied (s : State) : StepOutcome :=
  execute activeConfig .PLA .implied s

/-! PLP, Pull P (R235). -/

/-- PLP Implied: opcode 0x28 (R235). -/
def execPlpImplied (s : State) : StepOutcome :=
  execute activeConfig .PLP .implied s

/-! TAX, Transfer A to X (R247). -/

/-- TAX Implied: opcode 0xAA (R247). -/
def execTaxImplied (s : State) : StepOutcome :=
  execute activeConfig .TAX .implied s

/-! TAY, Transfer A to Y (R248). -/

/-- TAY Implied: opcode 0xA8 (R248). -/
def execTayImplied (s : State) : StepOutcome :=
  execute activeConfig .TAY .implied s

/-! TSX, Transfer SP to X (R249). -/

/-- TSX Implied: opcode 0xBA (R249). -/
def execTsxImplied (s : State) : StepOutcome :=
  execute activeConfig .TSX .implied s

/-! TXA, Transfer X to A (R250). -/

/-- TXA Implied: opcode 0x8A (R250). -/
def execTxaImplied (s : State) : StepOutcome :=
  execute activeConfig .TXA .implied s

/-! TXS, Transfer X to SP (R251). -/

/-- TXS Implied: opcode 0x9A (R251). -/
def execTxsImplied (s : State) : StepOutcome :=
  execute activeConfig .TXS .implied s

/-! TYA, Transfer Y to A (R252). -/

/-- TYA Implied: opcode 0x98 (R252). -/
def execTyaImplied (s : State) : StepOutcome :=
  execute activeConfig .TYA .implied s

end Sys2Proof.Machine
end

