-- ==== Sys2Proof/Machine/Dispatch.lean ====
section
/-! DEFINITION. Dispatch: one arm per constructor of Instr, each one direct call of its meaning. -/

namespace Sys2Proof.Machine

def exec (i : Instr) (s : State) : Host.Outcome State Fault Refusal :=
  match i with
  | .adcImmediate b => Sys2Proof.Machine.execAdcImmediate b s
  | .adcZeroPage z => Sys2Proof.Machine.execAdcZeroPage z s
  | .adcZeroPageX z => Sys2Proof.Machine.execAdcZeroPageX z s
  | .adcAbsolute a => Sys2Proof.Machine.execAdcAbsolute a s
  | .adcAbsoluteX a => Sys2Proof.Machine.execAdcAbsoluteX a s
  | .adcAbsoluteY a => Sys2Proof.Machine.execAdcAbsoluteY a s
  | .adcPreIndexedIndirectX z => Sys2Proof.Machine.execAdcPreIndexedIndirectX z s
  | .adcPostIndexedIndirectY z => Sys2Proof.Machine.execAdcPostIndexedIndirectY z s
  | .andImmediate b => Sys2Proof.Machine.execAndImmediate b s
  | .andZeroPage z => Sys2Proof.Machine.execAndZeroPage z s
  | .andZeroPageX z => Sys2Proof.Machine.execAndZeroPageX z s
  | .andAbsolute a => Sys2Proof.Machine.execAndAbsolute a s
  | .andAbsoluteX a => Sys2Proof.Machine.execAndAbsoluteX a s
  | .andAbsoluteY a => Sys2Proof.Machine.execAndAbsoluteY a s
  | .andPreIndexedIndirectX z => Sys2Proof.Machine.execAndPreIndexedIndirectX z s
  | .andPostIndexedIndirectY z => Sys2Proof.Machine.execAndPostIndexedIndirectY z s
  | .aslZeroPage z => Sys2Proof.Machine.execAslZeroPage z s
  | .aslZeroPageX z => Sys2Proof.Machine.execAslZeroPageX z s
  | .aslAbsolute a => Sys2Proof.Machine.execAslAbsolute a s
  | .aslAbsoluteX a => Sys2Proof.Machine.execAslAbsoluteX a s
  | .aslImplied => Sys2Proof.Machine.execAslImplied s
  | .bccRelative r => Sys2Proof.Machine.execBccRelative r s
  | .bcsRelative r => Sys2Proof.Machine.execBcsRelative r s
  | .beqRelative r => Sys2Proof.Machine.execBeqRelative r s
  | .bitZeroPage z => Sys2Proof.Machine.execBitZeroPage z s
  | .bitAbsolute a => Sys2Proof.Machine.execBitAbsolute a s
  | .bmiRelative r => Sys2Proof.Machine.execBmiRelative r s
  | .bneRelative r => Sys2Proof.Machine.execBneRelative r s
  | .bplRelative r => Sys2Proof.Machine.execBplRelative r s
  | .brkImplied => Sys2Proof.Machine.execBrkImplied s
  | .bvcRelative r => Sys2Proof.Machine.execBvcRelative r s
  | .bvsRelative r => Sys2Proof.Machine.execBvsRelative r s
  | .clcImplied => Sys2Proof.Machine.execClcImplied s
  | .cldImplied => Sys2Proof.Machine.execCldImplied s
  | .cliImplied => Sys2Proof.Machine.execCliImplied s
  | .clvImplied => Sys2Proof.Machine.execClvImplied s
  | .cmpImmediate b => Sys2Proof.Machine.execCmpImmediate b s
  | .cmpZeroPage z => Sys2Proof.Machine.execCmpZeroPage z s
  | .cmpZeroPageX z => Sys2Proof.Machine.execCmpZeroPageX z s
  | .cmpAbsolute a => Sys2Proof.Machine.execCmpAbsolute a s
  | .cmpAbsoluteX a => Sys2Proof.Machine.execCmpAbsoluteX a s
  | .cmpAbsoluteY a => Sys2Proof.Machine.execCmpAbsoluteY a s
  | .cmpPreIndexedIndirectX z => Sys2Proof.Machine.execCmpPreIndexedIndirectX z s
  | .cmpPostIndexedIndirectY z => Sys2Proof.Machine.execCmpPostIndexedIndirectY z s
  | .cpxImmediate b => Sys2Proof.Machine.execCpxImmediate b s
  | .cpxZeroPage z => Sys2Proof.Machine.execCpxZeroPage z s
  | .cpxAbsolute a => Sys2Proof.Machine.execCpxAbsolute a s
  | .cpyImmediate b => Sys2Proof.Machine.execCpyImmediate b s
  | .cpyZeroPage z => Sys2Proof.Machine.execCpyZeroPage z s
  | .cpyAbsolute a => Sys2Proof.Machine.execCpyAbsolute a s
  | .decZeroPage z => Sys2Proof.Machine.execDecZeroPage z s
  | .decZeroPageX z => Sys2Proof.Machine.execDecZeroPageX z s
  | .decAbsolute a => Sys2Proof.Machine.execDecAbsolute a s
  | .decAbsoluteX a => Sys2Proof.Machine.execDecAbsoluteX a s
  | .dexImplied => Sys2Proof.Machine.execDexImplied s
  | .deyImplied => Sys2Proof.Machine.execDeyImplied s
  | .eorImmediate b => Sys2Proof.Machine.execEorImmediate b s
  | .eorZeroPage z => Sys2Proof.Machine.execEorZeroPage z s
  | .eorZeroPageX z => Sys2Proof.Machine.execEorZeroPageX z s
  | .eorAbsolute a => Sys2Proof.Machine.execEorAbsolute a s
  | .eorAbsoluteX a => Sys2Proof.Machine.execEorAbsoluteX a s
  | .eorAbsoluteY a => Sys2Proof.Machine.execEorAbsoluteY a s
  | .eorPreIndexedIndirectX z => Sys2Proof.Machine.execEorPreIndexedIndirectX z s
  | .eorPostIndexedIndirectY z => Sys2Proof.Machine.execEorPostIndexedIndirectY z s
  | .incZeroPage z => Sys2Proof.Machine.execIncZeroPage z s
  | .incZeroPageX z => Sys2Proof.Machine.execIncZeroPageX z s
  | .incAbsolute a => Sys2Proof.Machine.execIncAbsolute a s
  | .incAbsoluteX a => Sys2Proof.Machine.execIncAbsoluteX a s
  | .inxImplied => Sys2Proof.Machine.execInxImplied s
  | .inyImplied => Sys2Proof.Machine.execInyImplied s
  | .jmpAbsolute a => Sys2Proof.Machine.execJmpAbsolute a s
  | .jmpIndirect a => Sys2Proof.Machine.execJmpIndirect a s
  | .jsrAbsolute a => Sys2Proof.Machine.execJsrAbsolute a s
  | .ldaImmediate b => Sys2Proof.Machine.execLdaImmediate b s
  | .ldaZeroPage z => Sys2Proof.Machine.execLdaZeroPage z s
  | .ldaZeroPageX z => Sys2Proof.Machine.execLdaZeroPageX z s
  | .ldaAbsolute a => Sys2Proof.Machine.execLdaAbsolute a s
  | .ldaAbsoluteX a => Sys2Proof.Machine.execLdaAbsoluteX a s
  | .ldaAbsoluteY a => Sys2Proof.Machine.execLdaAbsoluteY a s
  | .ldaPreIndexedIndirectX z => Sys2Proof.Machine.execLdaPreIndexedIndirectX z s
  | .ldaPostIndexedIndirectY z => Sys2Proof.Machine.execLdaPostIndexedIndirectY z s
  | .ldxImmediate b => Sys2Proof.Machine.execLdxImmediate b s
  | .ldxZeroPage z => Sys2Proof.Machine.execLdxZeroPage z s
  | .ldxZeroPageY z => Sys2Proof.Machine.execLdxZeroPageY z s
  | .ldxAbsolute a => Sys2Proof.Machine.execLdxAbsolute a s
  | .ldxAbsoluteY a => Sys2Proof.Machine.execLdxAbsoluteY a s
  | .ldyImmediate b => Sys2Proof.Machine.execLdyImmediate b s
  | .ldyZeroPage z => Sys2Proof.Machine.execLdyZeroPage z s
  | .ldyZeroPageX z => Sys2Proof.Machine.execLdyZeroPageX z s
  | .ldyAbsolute a => Sys2Proof.Machine.execLdyAbsolute a s
  | .ldyAbsoluteX a => Sys2Proof.Machine.execLdyAbsoluteX a s
  | .lsrZeroPage z => Sys2Proof.Machine.execLsrZeroPage z s
  | .lsrZeroPageX z => Sys2Proof.Machine.execLsrZeroPageX z s
  | .lsrAbsolute a => Sys2Proof.Machine.execLsrAbsolute a s
  | .lsrAbsoluteX a => Sys2Proof.Machine.execLsrAbsoluteX a s
  | .lsrImplied => Sys2Proof.Machine.execLsrImplied s
  | .nopImplied => Sys2Proof.Machine.execNopImplied s
  | .oraImmediate b => Sys2Proof.Machine.execOraImmediate b s
  | .oraZeroPage z => Sys2Proof.Machine.execOraZeroPage z s
  | .oraZeroPageX z => Sys2Proof.Machine.execOraZeroPageX z s
  | .oraAbsolute a => Sys2Proof.Machine.execOraAbsolute a s
  | .oraAbsoluteX a => Sys2Proof.Machine.execOraAbsoluteX a s
  | .oraAbsoluteY a => Sys2Proof.Machine.execOraAbsoluteY a s
  | .oraPreIndexedIndirectX z => Sys2Proof.Machine.execOraPreIndexedIndirectX z s
  | .oraPostIndexedIndirectY z => Sys2Proof.Machine.execOraPostIndexedIndirectY z s
  | .phaImplied => Sys2Proof.Machine.execPhaImplied s
  | .phpImplied => Sys2Proof.Machine.execPhpImplied s
  | .plaImplied => Sys2Proof.Machine.execPlaImplied s
  | .plpImplied => Sys2Proof.Machine.execPlpImplied s
  | .rolZeroPage z => Sys2Proof.Machine.execRolZeroPage z s
  | .rolZeroPageX z => Sys2Proof.Machine.execRolZeroPageX z s
  | .rolAbsolute a => Sys2Proof.Machine.execRolAbsolute a s
  | .rolAbsoluteX a => Sys2Proof.Machine.execRolAbsoluteX a s
  | .rolImplied => Sys2Proof.Machine.execRolImplied s
  | .rorZeroPage z => Sys2Proof.Machine.execRorZeroPage z s
  | .rorZeroPageX z => Sys2Proof.Machine.execRorZeroPageX z s
  | .rorAbsolute a => Sys2Proof.Machine.execRorAbsolute a s
  | .rorAbsoluteX a => Sys2Proof.Machine.execRorAbsoluteX a s
  | .rorImplied => Sys2Proof.Machine.execRorImplied s
  | .rtiImplied => Sys2Proof.Machine.execRtiImplied s
  | .rtsImplied => Sys2Proof.Machine.execRtsImplied s
  | .sbcImmediate b => Sys2Proof.Machine.execSbcImmediate b s
  | .sbcZeroPage z => Sys2Proof.Machine.execSbcZeroPage z s
  | .sbcZeroPageX z => Sys2Proof.Machine.execSbcZeroPageX z s
  | .sbcAbsolute a => Sys2Proof.Machine.execSbcAbsolute a s
  | .sbcAbsoluteX a => Sys2Proof.Machine.execSbcAbsoluteX a s
  | .sbcAbsoluteY a => Sys2Proof.Machine.execSbcAbsoluteY a s
  | .sbcPreIndexedIndirectX z => Sys2Proof.Machine.execSbcPreIndexedIndirectX z s
  | .sbcPostIndexedIndirectY z => Sys2Proof.Machine.execSbcPostIndexedIndirectY z s
  | .secImplied => Sys2Proof.Machine.execSecImplied s
  | .sedImplied => Sys2Proof.Machine.execSedImplied s
  | .seiImplied => Sys2Proof.Machine.execSeiImplied s
  | .staZeroPage z => Sys2Proof.Machine.execStaZeroPage z s
  | .staZeroPageX z => Sys2Proof.Machine.execStaZeroPageX z s
  | .staAbsolute a => Sys2Proof.Machine.execStaAbsolute a s
  | .staAbsoluteX a => Sys2Proof.Machine.execStaAbsoluteX a s
  | .staAbsoluteY a => Sys2Proof.Machine.execStaAbsoluteY a s
  | .staPreIndexedIndirectX z => Sys2Proof.Machine.execStaPreIndexedIndirectX z s
  | .staPostIndexedIndirectY z => Sys2Proof.Machine.execStaPostIndexedIndirectY z s
  | .stxZeroPage z => Sys2Proof.Machine.execStxZeroPage z s
  | .stxZeroPageY z => Sys2Proof.Machine.execStxZeroPageY z s
  | .stxAbsolute a => Sys2Proof.Machine.execStxAbsolute a s
  | .styZeroPage z => Sys2Proof.Machine.execStyZeroPage z s
  | .styZeroPageX z => Sys2Proof.Machine.execStyZeroPageX z s
  | .styAbsolute a => Sys2Proof.Machine.execStyAbsolute a s
  | .taxImplied => Sys2Proof.Machine.execTaxImplied s
  | .tayImplied => Sys2Proof.Machine.execTayImplied s
  | .tsxImplied => Sys2Proof.Machine.execTsxImplied s
  | .txaImplied => Sys2Proof.Machine.execTxaImplied s
  | .txsImplied => Sys2Proof.Machine.execTxsImplied s
  | .tyaImplied => Sys2Proof.Machine.execTyaImplied s

end Sys2Proof.Machine
end

