-- ==== Sys2Proof/Machine/Step.lean ====
section
/-! DEFINITION. One step of the machine, and the word the host places for it. -/

namespace Sys2Proof.Machine

/-- `step()` (30_encoding.md R110): none while FAULT is not None; otherwise decode at PC, which may raise
IllegalOpcode, and then the instruction's meaning. -/
def step (s : State) : StepOutcome :=
  match s.fault with
  | some e => .fault (.stopped e)
  | none =>
    match fetch s.mem s.pc with
    | .error e => .next (s.raise e)
    | .ok i => exec i s

/-- The state with the bytes of a table word placed at PC, where `step` fetches, as the host places a
program before a run (70_reset_and_hazards.md R354; log 9). Nothing else changes. -/
def State.withFetchWord (s : State) (nbits w : Nat) : State :=
  { s with mem := s.mem.load s.pc (wordBytes nbits w) }

end Sys2Proof.Machine
end

