-- ==== Sys2Proof/Machine/Asm.lean ====
section
/-! DEFINITION. Assembler notation (30_encoding.md R105; log 23). Notation only: nothing executes it. -/

namespace Sys2Proof.Machine

/-- A hexadecimal digit. -/
def hexDigit (n : Nat) : Char :=
  ['0', '1', '2', '3', '4', '5', '6', '7', '8', '9', 'A', 'B', 'C', 'D', 'E', 'F'].getD (n % 16) '0'

/-- `$` and two hexadecimal digits. -/
def hex8 (b : Byte) : String := String.ofList ['$', hexDigit (b.toNat / 16), hexDigit b.toNat]

/-- `$` and four hexadecimal digits, which always means Absolute (30_encoding.md R105). -/
def hex16 (a : Addr) : String :=
  String.ofList ['$', hexDigit (a.toNat / 4096), hexDigit (a.toNat / 256), hexDigit (a.toNat / 16),
    hexDigit a.toNat]

/-- The name of a mnemonic (30_encoding.md R108). -/
def mnemonicName : Mnemonic → String
  | .ADC => "ADC"
  | .AND => "AND"
  | .ASL => "ASL"
  | .BCC => "BCC"
  | .BCS => "BCS"
  | .BEQ => "BEQ"
  | .BIT => "BIT"
  | .BMI => "BMI"
  | .BNE => "BNE"
  | .BPL => "BPL"
  | .BRK => "BRK"
  | .BVC => "BVC"
  | .BVS => "BVS"
  | .CLC => "CLC"
  | .CLD => "CLD"
  | .CLI => "CLI"
  | .CLV => "CLV"
  | .CMP => "CMP"
  | .CPX => "CPX"
  | .CPY => "CPY"
  | .DEC => "DEC"
  | .DEX => "DEX"
  | .DEY => "DEY"
  | .EOR => "EOR"
  | .INC => "INC"
  | .INX => "INX"
  | .INY => "INY"
  | .JMP => "JMP"
  | .JSR => "JSR"
  | .LDA => "LDA"
  | .LDX => "LDX"
  | .LDY => "LDY"
  | .LSR => "LSR"
  | .NOP => "NOP"
  | .ORA => "ORA"
  | .PHA => "PHA"
  | .PHP => "PHP"
  | .PLA => "PLA"
  | .PLP => "PLP"
  | .ROL => "ROL"
  | .ROR => "ROR"
  | .RTI => "RTI"
  | .RTS => "RTS"
  | .SBC => "SBC"
  | .SEC => "SEC"
  | .SED => "SED"
  | .SEI => "SEI"
  | .STA => "STA"
  | .STX => "STX"
  | .STY => "STY"
  | .TAX => "TAX"
  | .TAY => "TAY"
  | .TSX => "TSX"
  | .TXA => "TXA"
  | .TXS => "TXS"
  | .TYA => "TYA"

/-- The operand's notation, with the space before it. `A` marks the accumulator form, Implied of a shift or
rotate. A Relative operand is a target label, and the byte has no target (R96), so the caller gives the
label of a byte. -/
def operandText (label : Byte → String) (m : Mnemonic) : AddressMode → String
  | .implied => if m = .ASL ∨ m = .LSR ∨ m = .ROL ∨ m = .ROR then " A" else ""
  | .immediate b => " #" ++ hex8 b
  | .zeroPage z => " " ++ hex8 z
  | .zeroPageX z => " " ++ hex8 z ++ ",X"
  | .zeroPageY z => " " ++ hex8 z ++ ",Y"
  | .absolute a => " " ++ hex16 a
  | .absoluteX a => " " ++ hex16 a ++ ",X"
  | .absoluteY a => " " ++ hex16 a ++ ",Y"
  | .indirect a => " (" ++ hex16 a ++ ")"
  | .preIndexedIndirectX z => " (" ++ hex8 z ++ ",X)"
  | .postIndexedIndirectY z => " (" ++ hex8 z ++ "),Y"
  | .relative r => " " ++ label r

/-- An instruction in assembler notation (30_encoding.md R105). -/
def asm (label : Byte → String) (i : Instr) : String :=
  mnemonicName i.mnemonic ++ operandText label i.mnemonic i.mode

end Sys2Proof.Machine
end

