-- ==== Sys2Proof/Machine/Accesses.lean ====
section
/-! DEFINITION. The memory accesses a step makes, in order (20_memory.md R58, 30_encoding.md R98; D11). The
block keeps no record of them (10_state.md R40), so they are a function of the state beside the step (log 12).
Every access is one byte wide (20_memory.md R54). -/

namespace Sys2Proof.Machine

/-- One access: a call of `read` or of `write` (20_memory.md R50). -/
inductive Access where
  | read (addr : Addr)
  | write (addr : Addr) (v : Byte)
  deriving DecidableEq, Repr

/-- The decoder's reads, in address order: the opcode, operand byte 1 when the row's length is at least 2, byte 2
when it is 3; the opcode alone for an illegal one (30_encoding.md R97, R98). -/
def fetchAccesses (cfg : Config) (mem : Memory) (pc : Addr) : List Access :=
  match decodeRow cfg (mem.read pc) with
  | none => [.read pc]
  | some r =>
    .read pc :: ((if 2 ≤ r.bytes then [.read (pc + 1)] else []) ++ (if r.bytes = 3 then [.read (pc + 2)] else []))

/-- The resolver's pointer reads: low byte, then high byte (20_memory.md R56). -/
def pointerAccesses (mode : AddressMode) (x : Byte) : List Access :=
  match pointerAddr mode x with
  | some p => [.read p, .read (p + 1)]
  | none => []

/-- The accesses of resolving and applying a semantic function: pointer reads, the operand's read, and for a
memory form of ASL the write of the result (20_memory.md R58, R87). -/
def semanticAccesses (f : SemanticFunction) (m : Mnemonic) (mode : AddressMode) (s : State) :
    List Access :=
  match resolveAddress m mode s.x s.y s.mem with
  | .error _ => []
  | .ok (ea, _) =>
    match f with
    | .onValue _ => pointerAccesses mode s.x ++ [.read ea]
    | .readModifyWrite _ onMemory =>
      pointerAccesses mode s.x ++ [.read ea, .write ea ((onMemory ea s).mem.read ea)]

/-- The accesses of `execute`: none but those of the semantic function, and none where an error is raised
before it (20_memory.md R58: "a call of `execute` with a caller-supplied mode makes no fetch"). -/
def executeAccesses (cfg : Config) (m : Mnemonic) (mode : AddressMode) (s : State) : List Access :=
  match s.fault, semanticOf cfg m, metricsOf cfg m mode.variant with
  | none, some f, some _ => semanticAccesses f m mode s
  | _, _, _ => []

/-- The accesses of a step: the fetch, then those of `execute`; none while FAULT is not None. -/
def stepAccesses (cfg : Config) (s : State) : List Access :=
  match s.fault with
  | some _ => []
  | none =>
    match decodeAt cfg s.mem s.pc s.cyc with
    | .error _ => fetchAccesses cfg s.mem s.pc
    | .ok (m, mode) => fetchAccesses cfg s.mem s.pc ++ executeAccesses cfg m mode s

end Sys2Proof.Machine
end

