-- ==== Sys2Proof/Safety.lean ====
section
/-! DEFINITION. The terms claims are stated in: a block that runs, a run that ends well, the invariant of the
model, and what a step may read. -/

namespace Sys2Proof.Safety

open Sys2Proof.Machine

/-- The block takes steps: FAULT is None (10_state.md R38). -/
def Running (s : State) : Prop := s.fault = none

/-- A run of `k` steps ends well: it ends, with FAULT None. "A stopped state with FAULT not None is never a
successful end" (70_reset_and_hazards.md R358). -/
def EndsWell (k : Nat) (s : State) : Prop := ∃ t, Sys2Proof.core.run k s = .next t ∧ Running t

/-- The invariant of the model: memory is in its canonical form. -/
def Inv (s : State) : Prop := s.mem.wf

/-- Two memories that agree on every byte an access list reads. -/
def AgreeOnReads (accesses : List Access) (m m' : Memory) : Prop :=
  ∀ addr, Access.read addr ∈ accesses → m'.read addr = m.read addr

/-- An outcome without its memory: what it leaves of the block's own state (10_state.md R20). -/
def blockOutcome : StepOutcome → StepOutcome
  | .next t => .next { t with mem := [] }
  | .fault r => .fault r
  | .refused r => .refused r

/-- The byte at an address after an access list: that of the last write to it, else the given byte
(20_memory.md R57). -/
def byteAfter (addr : Addr) : List Access → Byte → Byte
  | [], v => v
  | .read _ :: rest, v => byteAfter addr rest v
  | .write b w :: rest, v => byteAfter addr rest (if b = addr then w else v)

end Sys2Proof.Safety
end

