-- ==== Sys2Proof/WellFormed.lean ====
section
/-! DEFINITION. WellFormed: which (mnemonic, mode) pairs have an encoding, mnemonic by mnemonic, read from
the Encoding lines of 40_adc_and.md R152 and R153, 41_asl.md R160 and R161, and 42_unimplemented.md R200
to R252. It is written apart from the opcode map of Decode.lean (30_encoding.md R99), so that each checks
the other. Operand widths are in the types, so an `Instr` term has nothing else to check (log 17). -/

namespace Sys2Proof

/-- The variants a mnemonic is encoded with. -/
def Mnemonic.variants : Mnemonic → List Variant
  | .ADC => [.immediate, .zeroPage, .zeroPageX, .absolute, .absoluteX, .absoluteY, .preIndexedIndirectX, .postIndexedIndirectY]
  | .AND => [.immediate, .zeroPage, .zeroPageX, .absolute, .absoluteX, .absoluteY, .preIndexedIndirectX, .postIndexedIndirectY]
  | .ASL => [.implied, .zeroPage, .zeroPageX, .absolute, .absoluteX]
  | .BCC => [.relative]
  | .BCS => [.relative]
  | .BEQ => [.relative]
  | .BIT => [.zeroPage, .absolute]
  | .BMI => [.relative]
  | .BNE => [.relative]
  | .BPL => [.relative]
  | .BRK => [.implied]
  | .BVC => [.relative]
  | .BVS => [.relative]
  | .CLC => [.implied]
  | .CLD => [.implied]
  | .CLI => [.implied]
  | .CLV => [.implied]
  | .CMP => [.preIndexedIndirectX, .zeroPage, .immediate, .absolute, .postIndexedIndirectY, .zeroPageX, .absoluteY, .absoluteX]
  | .CPX => [.immediate, .zeroPage, .absolute]
  | .CPY => [.immediate, .zeroPage, .absolute]
  | .DEC => [.zeroPage, .absolute, .zeroPageX, .absoluteX]
  | .DEX => [.implied]
  | .DEY => [.implied]
  | .EOR => [.preIndexedIndirectX, .zeroPage, .immediate, .absolute, .postIndexedIndirectY, .zeroPageX, .absoluteY, .absoluteX]
  | .INC => [.zeroPage, .absolute, .zeroPageX, .absoluteX]
  | .INX => [.implied]
  | .INY => [.implied]
  | .JMP => [.absolute, .indirect]
  | .JSR => [.absolute]
  | .LDA => [.preIndexedIndirectX, .zeroPage, .immediate, .absolute, .postIndexedIndirectY, .zeroPageX, .absoluteY, .absoluteX]
  | .LDX => [.immediate, .zeroPage, .absolute, .zeroPageY, .absoluteY]
  | .LDY => [.immediate, .zeroPage, .absolute, .zeroPageX, .absoluteX]
  | .LSR => [.zeroPage, .implied, .absolute, .zeroPageX, .absoluteX]
  | .NOP => [.implied]
  | .ORA => [.preIndexedIndirectX, .zeroPage, .immediate, .absolute, .postIndexedIndirectY, .zeroPageX, .absoluteY, .absoluteX]
  | .PHA => [.implied]
  | .PHP => [.implied]
  | .PLA => [.implied]
  | .PLP => [.implied]
  | .ROL => [.zeroPage, .implied, .absolute, .zeroPageX, .absoluteX]
  | .ROR => [.zeroPage, .implied, .absolute, .zeroPageX, .absoluteX]
  | .RTI => [.implied]
  | .RTS => [.implied]
  | .SBC => [.preIndexedIndirectX, .zeroPage, .immediate, .absolute, .postIndexedIndirectY, .zeroPageX, .absoluteY, .absoluteX]
  | .SEC => [.implied]
  | .SED => [.implied]
  | .SEI => [.implied]
  | .STA => [.preIndexedIndirectX, .zeroPage, .absolute, .postIndexedIndirectY, .zeroPageX, .absoluteY, .absoluteX]
  | .STX => [.zeroPage, .absolute, .zeroPageY]
  | .STY => [.zeroPage, .absolute, .zeroPageX]
  | .TAX => [.implied]
  | .TAY => [.implied]
  | .TSX => [.implied]
  | .TXA => [.implied]
  | .TXS => [.implied]
  | .TYA => [.implied]

/-- The pair has an encoding, so that `step` can reach it. `execute` takes every other pair too
(30_encoding.md R106, D25) and answers it with an error. -/
def pairWf (m : Mnemonic) (mode : AddressMode) : Bool := m.variants.contains mode.variant

/-- An instruction is well formed when its pair has an encoding. -/
def Instr.wf (i : Instr) : Bool := pairWf i.mnemonic i.mode

end Sys2Proof
end

