-- ==== Sys2Proof/Certificates/Slice0/Obligations.lean ====
section
/-! DEFINITION. The statements for the provers, each a rule of spec/ or a consequence of its rules, and the lists of
instructions and the terms they are stated with. `v` is a byte operand, `w` a 16-bit one. -/

namespace Sys2Proof.Forms

open Sys2Proof.Machine

/-- The eight forms of ADC (30_encoding.md R101). -/
def adcForms (v : Byte) (w : Addr) : List Instr :=
  [.adcImmediate v, .adcZeroPage v, .adcZeroPageX v, .adcAbsolute w, .adcAbsoluteX w, .adcAbsoluteY w,
   .adcPreIndexedIndirectX v, .adcPostIndexedIndirectY v]

/-- The eight forms of AND (30_encoding.md R101). -/
def andForms (v : Byte) (w : Addr) : List Instr :=
  [.andImmediate v, .andZeroPage v, .andZeroPageX v, .andAbsolute w, .andAbsoluteX w, .andAbsoluteY w,
   .andPreIndexedIndirectX v, .andPostIndexedIndirectY v]

/-- The four memory forms of ASL (30_encoding.md R101). -/
def aslMemoryForms (v : Byte) (w : Addr) : List Instr :=
  [.aslZeroPage v, .aslZeroPageX v, .aslAbsolute w, .aslAbsoluteX w]

/-- The recognised arithmetic, logic, compare, increment and decrement instructions, each with its mnemonic (42_unimplemented.md). -/
def arithmeticCompareForms (v : Byte) (w : Addr) : List (Instr × Mnemonic) :=
  [(.bitZeroPage v, .BIT), (.bitAbsolute w, .BIT), (.cmpImmediate v, .CMP), (.cmpZeroPage v, .CMP),
   (.cmpZeroPageX v, .CMP), (.cmpAbsolute w, .CMP), (.cmpAbsoluteX w, .CMP), (.cmpAbsoluteY w, .CMP),
   (.cmpPreIndexedIndirectX v, .CMP), (.cmpPostIndexedIndirectY v, .CMP), (.cpxImmediate v, .CPX),
   (.cpxZeroPage v, .CPX), (.cpxAbsolute w, .CPX), (.cpyImmediate v, .CPY), (.cpyZeroPage v, .CPY),
   (.cpyAbsolute w, .CPY), (.decZeroPage v, .DEC), (.decZeroPageX v, .DEC), (.decAbsolute w, .DEC),
   (.decAbsoluteX w, .DEC), (.dexImplied, .DEX), (.deyImplied, .DEY), (.eorImmediate v, .EOR),
   (.eorZeroPage v, .EOR), (.eorZeroPageX v, .EOR), (.eorAbsolute w, .EOR), (.eorAbsoluteX w, .EOR),
   (.eorAbsoluteY w, .EOR), (.eorPreIndexedIndirectX v, .EOR), (.eorPostIndexedIndirectY v, .EOR),
   (.incZeroPage v, .INC), (.incZeroPageX v, .INC), (.incAbsolute w, .INC), (.incAbsoluteX w, .INC),
   (.inxImplied, .INX), (.inyImplied, .INY), (.oraImmediate v, .ORA), (.oraZeroPage v, .ORA),
   (.oraZeroPageX v, .ORA), (.oraAbsolute w, .ORA), (.oraAbsoluteX w, .ORA), (.oraAbsoluteY w, .ORA),
   (.oraPreIndexedIndirectX v, .ORA), (.oraPostIndexedIndirectY v, .ORA), (.sbcImmediate v, .SBC),
   (.sbcZeroPage v, .SBC), (.sbcZeroPageX v, .SBC), (.sbcAbsolute w, .SBC), (.sbcAbsoluteX w, .SBC),
   (.sbcAbsoluteY w, .SBC), (.sbcPreIndexedIndirectX v, .SBC), (.sbcPostIndexedIndirectY v, .SBC)]

/-- The recognised loads and stores, each with its mnemonic (42_unimplemented.md). -/
def loadStoreForms (v : Byte) (w : Addr) : List (Instr × Mnemonic) :=
  [(.ldaImmediate v, .LDA), (.ldaZeroPage v, .LDA), (.ldaZeroPageX v, .LDA), (.ldaAbsolute w, .LDA),
   (.ldaAbsoluteX w, .LDA), (.ldaAbsoluteY w, .LDA), (.ldaPreIndexedIndirectX v, .LDA),
   (.ldaPostIndexedIndirectY v, .LDA), (.ldxImmediate v, .LDX), (.ldxZeroPage v, .LDX),
   (.ldxZeroPageY v, .LDX), (.ldxAbsolute w, .LDX), (.ldxAbsoluteY w, .LDX), (.ldyImmediate v, .LDY),
   (.ldyZeroPage v, .LDY), (.ldyZeroPageX v, .LDY), (.ldyAbsolute w, .LDY), (.ldyAbsoluteX w, .LDY),
   (.staZeroPage v, .STA), (.staZeroPageX v, .STA), (.staAbsolute w, .STA), (.staAbsoluteX w, .STA),
   (.staAbsoluteY w, .STA), (.staPreIndexedIndirectX v, .STA), (.staPostIndexedIndirectY v, .STA),
   (.stxZeroPage v, .STX), (.stxZeroPageY v, .STX), (.stxAbsolute w, .STX), (.styZeroPage v, .STY),
   (.styZeroPageX v, .STY), (.styAbsolute w, .STY)]

/-- The recognised shifts and rotates, each with its mnemonic (42_unimplemented.md). -/
def shiftRotateForms (v : Byte) (w : Addr) : List (Instr × Mnemonic) :=
  [(.lsrZeroPage v, .LSR), (.lsrZeroPageX v, .LSR), (.lsrAbsolute w, .LSR), (.lsrAbsoluteX w, .LSR),
   (.lsrImplied, .LSR), (.rolZeroPage v, .ROL), (.rolZeroPageX v, .ROL), (.rolAbsolute w, .ROL),
   (.rolAbsoluteX w, .ROL), (.rolImplied, .ROL), (.rorZeroPage v, .ROR), (.rorZeroPageX v, .ROR),
   (.rorAbsolute w, .ROR), (.rorAbsoluteX w, .ROR), (.rorImplied, .ROR)]

/-- The recognised branches, each with its mnemonic (42_unimplemented.md). -/
def branchForms (v : Byte) : List (Instr × Mnemonic) :=
  [(.bccRelative v, .BCC), (.bcsRelative v, .BCS), (.beqRelative v, .BEQ), (.bmiRelative v, .BMI),
   (.bneRelative v, .BNE), (.bplRelative v, .BPL), (.bvcRelative v, .BVC), (.bvsRelative v, .BVS)]

/-- The recognised jumps, calls, returns, BRK and NOP, each with its mnemonic (42_unimplemented.md). -/
def controlForms (w : Addr) : List (Instr × Mnemonic) :=
  [(.brkImplied, .BRK), (.jmpAbsolute w, .JMP), (.jmpIndirect w, .JMP), (.jsrAbsolute w, .JSR),
   (.nopImplied, .NOP), (.rtiImplied, .RTI), (.rtsImplied, .RTS)]

/-- The recognised flag instructions, each with its mnemonic (42_unimplemented.md). -/
def flagSetForms : List (Instr × Mnemonic) :=
  [(.clcImplied, .CLC), (.cldImplied, .CLD), (.cliImplied, .CLI), (.clvImplied, .CLV),
   (.secImplied, .SEC), (.sedImplied, .SED), (.seiImplied, .SEI)]

/-- The recognised transfers and stack instructions, each with its mnemonic (42_unimplemented.md). -/
def transferStackForms : List (Instr × Mnemonic) :=
  [(.phaImplied, .PHA), (.phpImplied, .PHP), (.plaImplied, .PLA), (.plpImplied, .PLP),
   (.taxImplied, .TAX), (.tayImplied, .TAY), (.tsxImplied, .TSX), (.txaImplied, .TXA),
   (.txsImplied, .TXS), (.tyaImplied, .TYA)]

/-- The 105 illegal opcode values, as 30_encoding.md R100 lists them. -/
def illegalOpcodes : List Byte :=
  [0x02, 0x03, 0x04, 0x07, 0x0B, 0x0C, 0x0F, 0x12, 0x13, 0x14, 0x17, 0x1A, 0x1B, 0x1C, 0x1F, 0x22, 0x23,
   0x27, 0x2B, 0x2F, 0x32, 0x33, 0x34, 0x37, 0x3A, 0x3B, 0x3C, 0x3F, 0x42, 0x43, 0x44, 0x47, 0x4B, 0x4F,
   0x52] ++
  [0x53, 0x54, 0x57, 0x5A, 0x5B, 0x5C, 0x5F, 0x62, 0x63, 0x64, 0x67, 0x6B, 0x6F, 0x72, 0x73, 0x74, 0x77,
   0x7A, 0x7B, 0x7C, 0x7F, 0x80, 0x82, 0x83, 0x87, 0x89, 0x8B, 0x8F, 0x92, 0x93, 0x97, 0x9B, 0x9C, 0x9E,
   0x9F] ++
  [0xA3, 0xA7, 0xAB, 0xAF, 0xB2, 0xB3, 0xB7, 0xBB, 0xBF, 0xC2, 0xC3, 0xC7, 0xCB, 0xCF, 0xD2, 0xD3, 0xD4,
   0xD7, 0xDA, 0xDB, 0xDC, 0xDF, 0xE2, 0xE3, 0xE7, 0xEB, 0xEF, 0xF2, 0xF3, 0xF4, 0xF7, 0xFA, 0xFB, 0xFC,
   0xFF]

/-- The flags outside `written`, and bit 5, are as before. -/
def FlagsKept (written : List Flag) (p q : Byte) : Prop :=
  (∀ f, f ∉ written → getFlag f q = getFlag f p) ∧ reservedBit q = reservedBit p

/-- Every byte of memory reads as before. -/
def MemoryKept (s t : State) : Prop := ∀ addr, t.mem.read addr = s.mem.read addr

/-- X, Y and SP are as before and FAULT is None. -/
def RegistersKept (s t : State) : Prop :=
  t.x = s.x ∧ t.y = s.y ∧ t.sp = s.sp ∧ t.fault = none

/-- PC has advanced by the row's length and CYC by its base cycles and the extra cycle (30_encoding.md R106,
steps 5 and 6). -/
def Advanced (k : ExecutionMetrics) (extra : Nat) (s t : State) : Prop :=
  t.pc = s.pc + BitVec.ofNat 16 k.bytes ∧ t.cyc = s.cyc + BitVec.ofNat 64 (k.cycles + extra)

/-- The whole effect of ADC of `val` on A and P, in exact arithmetic (40_adc_and.md R152). -/
def AdcEffect (val : Byte) (s t : State) : Prop :=
  let c := (getFlag .C s.p).toNat
  let sum := s.a.toNat + val.toNat + c
  t.a.toNat = sum % 256 ∧
    getFlag .C t.p = decide (256 ≤ sum) ∧
    getFlag .V t.p = (decide (128 ≤ s.a.toNat % 128 + val.toNat % 128 + c) ^^ decide (256 ≤ sum)) ∧
    getFlag .Z t.p = decide (t.a = 0) ∧
    getFlag .N t.p = t.a.getLsbD 7 ∧
    FlagsKept [.N, .V, .Z, .C] s.p t.p

/-- The whole effect of AND of `val` on A and P (40_adc_and.md R153). -/
def AndEffect (val : Byte) (s t : State) : Prop :=
  (∀ n, t.a.getLsbD n = (s.a.getLsbD n && val.getLsbD n)) ∧
    getFlag .Z t.p = decide (t.a = 0) ∧
    getFlag .N t.p = t.a.getLsbD 7 ∧
    FlagsKept [.N, .Z] s.p t.p

/-- P after a shift of `old` into `new`, with the carry the parameter gives (41_asl.md R160, R161). -/
def AslFlagsEffect (aslCarry : AslCarry) (old new : Byte) (p q : Byte) : Prop :=
  new.toNat = 2 * old.toNat % 256 ∧
    getFlag .Z q = decide (new = 0) ∧
    getFlag .N q = new.getLsbD 7 ∧
    (aslCarry = .canonical → getFlag .C q = old.getLsbD 7) ∧
    (aslCarry = .asWritten → getFlag .C q = getFlag .C p) ∧
    FlagsKept [.N, .Z, .C] p q

/-- The mnemonic the opcode map gives an opcode byte (30_encoding.md R99). -/
def opcodeMnemonic (op : Byte) : Option Mnemonic :=
  match opcodeFormat op with
  | none => none
  | some (.f1 i) => some i.mnemonic
  | some (.f2 build) => some (build 0).mnemonic
  | some (.f3 build) => some (build 0).mnemonic

/-- The three mnemonics with a semantic function (30_encoding.md R108). -/
def implemented : List Mnemonic := [.ADC, .AND, .ASL]

/-- The number of memory accesses of each implemented form (the table of 20_memory.md R58). -/
def accessCounts (v : Byte) (w : Addr) : List (Instr × Nat) :=
  [(.adcImmediate v, 2), (.andImmediate v, 2), (.adcZeroPage v, 3), (.andZeroPage v, 3),
   (.adcZeroPageX v, 3), (.andZeroPageX v, 3), (.adcAbsolute w, 4), (.andAbsolute w, 4),
   (.adcAbsoluteX w, 4), (.andAbsoluteX w, 4), (.adcAbsoluteY w, 4), (.andAbsoluteY w, 4),
   (.adcPreIndexedIndirectX v, 5), (.andPreIndexedIndirectX v, 5), (.adcPostIndexedIndirectY v, 5),
   (.andPostIndexedIndirectY v, 5), (.aslImplied, 1), (.aslZeroPage v, 4), (.aslZeroPageX v, 4),
   (.aslAbsolute w, 5), (.aslAbsoluteX w, 5)]

/-- The rows of the cost table: mnemonic, variant, opcode byte, bytes, base cycles (30_encoding.md R101). -/
def costs : List (Mnemonic × Variant × Nat × Nat × Nat) :=
  [(.ADC, .immediate, 0x69, 2, 2), (.ADC, .zeroPage, 0x65, 2, 3), (.ADC, .zeroPageX, 0x75, 2, 4),
   (.ADC, .absolute, 0x6D, 3, 4), (.ADC, .absoluteX, 0x7D, 3, 4), (.ADC, .absoluteY, 0x79, 3, 4),
   (.ADC, .preIndexedIndirectX, 0x61, 2, 6), (.ADC, .postIndexedIndirectY, 0x71, 2, 5),
   (.AND, .immediate, 0x29, 2, 2), (.AND, .zeroPage, 0x25, 2, 3), (.AND, .zeroPageX, 0x35, 2, 4),
   (.AND, .absolute, 0x2D, 3, 4), (.AND, .absoluteX, 0x3D, 3, 4), (.AND, .absoluteY, 0x39, 3, 4),
   (.AND, .preIndexedIndirectX, 0x21, 2, 6), (.AND, .postIndexedIndirectY, 0x31, 2, 5),
   (.ASL, .implied, 0x0A, 1, 2), (.ASL, .zeroPage, 0x06, 2, 5), (.ASL, .zeroPageX, 0x16, 2, 6),
   (.ASL, .absolute, 0x0E, 3, 6), (.ASL, .absoluteX, 0x1E, 3, 6)]

end Sys2Proof.Forms

open Sys2Proof Sys2Proof.Machine Sys2Proof.Safety Sys2Proof.Forms

/-! ## The status register and address arithmetic -/

/-- 10_state.md R28: get, set and clear, and that the order of the sets of two flags is not observable. -/
def Obligations.FlagGetSetClear : Prop :=
  ∀ (f g : Flag) (b b' : Bool) (p : Byte),
    getFlag f p = p.getLsbD f.bit ∧
    (∀ n, n < 8 → (setFlag f b p).getLsbD n = if n = f.bit then b else p.getLsbD n) ∧
    clearFlag f p = setFlag f false p ∧
    (f ≠ g → setFlag f b (setFlag g b' p) = setFlag g b' (setFlag f b p))

/-- 10_state.md R27: the bit positions of P. -/
def Obligations.FlagBitLayout : Prop :=
  ∀ p : Byte,
    getFlag .N p = p.getLsbD 7 ∧ getFlag .V p = p.getLsbD 6 ∧ reservedBit p = p.getLsbD 5 ∧
    getFlag .B p = p.getLsbD 4 ∧ getFlag .D p = p.getLsbD 3 ∧ getFlag .I p = p.getLsbD 2 ∧
    getFlag .Z p = p.getLsbD 1 ∧ getFlag .C p = p.getLsbD 0

/-- 40_adc_and.md R150: setNZ writes N and Z from the result and no other bit, and ADC, AND and ASL all end
with it. -/
def Obligations.SetNZFromResult : Prop :=
  (∀ r p : Byte,
    getFlag .N (setNZ r p) = r.getLsbD 7 ∧ getFlag .Z (setNZ r p) = decide (r = 0) ∧
    FlagsKept [.N, .Z] p (setNZ r p)) ∧
  (∀ (cfg : Config) (val : Byte) (s t : State), adc cfg val s = .ok t → ∃ q, t.p = setNZ t.a q) ∧
  (∀ (val : Byte) (s : State), ∃ q, (andA val s).p = setNZ (andA val s).a q) ∧
  (∀ (cfg : Config) (s : State), ∃ q, (aslA cfg s).p = setNZ (aslA cfg s).a q) ∧
  (∀ (cfg : Config) (ea : Addr) (s : State),
    ∃ q, (aslM cfg ea s).p = setNZ ((aslM cfg ea s).mem.read ea) q)

/-- 20_memory.md R72: the wrapped sum and the page crossing, with the source's two examples. -/
def Obligations.PageCrossDetection : Prop :=
  (∀ (a : Addr) (d : Byte),
    (addCheckPageCross a d).1.toNat = (a.toNat + d.toNat) % 65536 ∧
    ((addCheckPageCross a d).2 = true ↔ hi (addCheckPageCross a d).1 ≠ hi a)) ∧
  addCheckPageCross 0x00FF 1 = (0x0100, true) ∧ addCheckPageCross 0x01FA 1 = (0x01FB, false)

/-- Derived from 20_memory.md R72: a page is crossed exactly when the low byte and the index carry, also at the
top of the address space. -/
def Obligations.PageCrossIffLowByteCarries : Prop :=
  ∀ (a : Addr) (d : Byte),
    ((addCheckPageCross a d).2 = true ↔ 256 ≤ (lo a).toNat + d.toNat)

/-- 20_memory.md R73: zero-page sums stay within page 0. -/
def Obligations.ZeroPageArithmetic : Prop :=
  ∀ z d : Byte,
    (zeroPageAdd z d).toNat = (z.toNat + d.toNat) % 256 ∧
    upgrade z = fromBytes z 0x00 ∧ hi (upgrade z) = 0x00 ∧ lo (upgrade z) = z

/-- 20_memory.md R56: a pointer's low byte is at `p`, its high byte at `p + 1` in the 16-bit space, read in that
order. -/
def Obligations.PointerLowThenHighByte : Prop :=
  (∀ (m : Memory) (p : Addr),
    (m.read16 p).toNat = (m.read (p + 1)).toNat * 256 + (m.read p).toNat) ∧
  (∀ m : Memory, hi (m.read16 0x00FF) = m.read 0x0100 ∧ hi (m.read16 0xFFFF) = m.read 0x0000) ∧
  (∀ (mode : AddressMode) (x : Byte) (p : Addr), pointerAddr mode x = some p →
    pointerAccesses mode x = [.read p, .read (p + 1)])

/-- 20_memory.md R76, R77, R79 to R84: the effective address and extra cycle of each mode that has one (R82: Indirect
reads no pointer). -/
def Obligations.ResolvedAddresses : Prop :=
  ∀ (m : Mnemonic) (z : Byte) (a : Addr) (x y : Byte) (mem : Memory),
    let crossed (base ea : Addr) : Nat := if ea.toNat / 256 ≠ base.toNat / 256 then 1 else 0
    resolveAddress m (.zeroPage z) x y mem = .ok (BitVec.ofNat 16 z.toNat, 0) ∧
    resolveAddress m (.zeroPageX z) x y mem = .ok (BitVec.ofNat 16 ((z.toNat + x.toNat) % 256), 0) ∧
    resolveAddress m (.absolute a) x y mem = .ok (a, 0) ∧
    (∃ ea, resolveAddress m (.absoluteX a) x y mem = .ok (ea, crossed a ea) ∧
      ea.toNat = (a.toNat + x.toNat) % 65536) ∧
    (∃ ea, resolveAddress m (.absoluteY a) x y mem = .ok (ea, crossed a ea) ∧
      ea.toNat = (a.toNat + y.toNat) % 65536) ∧
    resolveAddress m (.indirect a) x y mem = .ok (a, 0) ∧ pointerAccesses (.indirect a) x = [] ∧
    resolveAddress m (.preIndexedIndirectX z) x y mem =
      .ok (mem.read16 (BitVec.ofNat 16 ((z.toNat + x.toNat) % 256)), 0) ∧
    (∃ ea, resolveAddress m (.postIndexedIndirectY z) x y mem =
        .ok (ea, crossed (mem.read16 (BitVec.ofNat 16 z.toNat)) ea) ∧
      ea.toNat = ((mem.read16 (BitVec.ofNat 16 z.toNat)).toNat + y.toNat) % 65536)

/-- Derived from 20_memory.md R78, R85: ZeroPageY and Relative are not defined: both resolver functions raise,
whatever memory holds; no mnemonic has a ZeroPageY row in the cost table, so `execute` raises at the lookup; and a
step of a Relative instruction raises NotYetImplemented first (that the branches use Relative is general knowledge
by the spec's own mark). That an error is a next state is the model's answer (log 1). -/
def Obligations.UndefinedModesRaise : Prop :=
  (∀ (m : Mnemonic) (b x y : Byte) (mem : Memory),
    resolveAddress m (.zeroPageY b) x y mem = .error (.unsupportedAddressingMode m (.zeroPageY b)) ∧
    resolveValue m (.zeroPageY b) x y mem = .error (.unsupportedAddressingMode m (.zeroPageY b)) ∧
    resolveAddress m (.relative b) x y mem = .error (.unsupportedAddressingMode m (.relative b)) ∧
    resolveValue m (.relative b) x y mem = .error (.unsupportedAddressingMode m (.relative b))) ∧
  (∀ (m : Mnemonic) (b : Byte) (s : State), m ∈ implemented → s.fault = none →
    metricsOf activeConfig m .zeroPageY = none ∧
    execute activeConfig m (.zeroPageY b) s =
      .next { s with fault := some (.unsupportedAddressingMode m (.zeroPageY b)) }) ∧
  (∀ (s : State) (i : Instr) (b : Byte), s.fault = none → fetch s.mem s.pc = .ok i →
    i.mode = .relative b →
    step s = .next { s with fault := some (.notYetImplemented i.mnemonic) })

/-- 20_memory.md R75, R87 (the spec's own decisions D11 and D21): Immediate is its embedded byte and has no
effective address; every other mode's value is the byte at its effective address. -/
def Obligations.OperandValueIsByteAtAddress : Prop :=
  ∀ (m : Mnemonic) (mode : AddressMode) (x y : Byte) (mem : Memory),
    (∀ b, mode = .immediate b → resolveValue m mode x y mem = .ok (b, 0) ∧
      resolveAddress m mode x y mem = .error (.unsupportedAddressingMode m (.immediate b))) ∧
    (∀ ea extra, resolveAddress m mode x y mem = .ok (ea, extra) →
      resolveValue m mode x y mem = .ok (mem.read ea, extra) ∧ extra ≤ 1)

/-! ## Memory and the state after construction -/

/-- Derived from 20_memory.md R57 (decision D12): after any sequence of writes a read gives the most recent
byte written to its address, or the initial byte. -/
def Obligations.ReadGivesMostRecentWrite : Prop :=
  ∀ (m : Memory) (writes : List (Addr × Byte)) (addr : Addr),
    (writes.foldl (fun m c => m.write c.1 c.2) m).read addr =
      ((writes.reverse.find? (fun c => c.1 = addr)).map Prod.snd).getD (m.read addr)

/-- The model's canonical form (log 2): two memories in it that read alike at every address are equal data, and
every write keeps the form. -/
def Obligations.CanonicalMemoryIsItsBytes : Prop :=
  (∀ m m' : Memory, m.wf → m'.wf → (∀ addr, m.read addr = m'.read addr) → m = m') ∧
  (∀ (m : Memory) (addr : Addr) (v : Byte), m.wf → (m.write addr v).wf)

/-- 70_reset_and_hazards.md R350, R352 (the register values are the spec's decision D7; logs 7 and 8): the state
after construction with a fresh memory, and the start states of R351. -/
def Obligations.ConstructionState : Prop :=
  (∀ s, s = State.reset →
    s.a = 0x00 ∧ s.x = 0x00 ∧ s.y = 0x00 ∧ s.sp = 0x00 ∧ s.pc = 0x0000 ∧ s.p = 0x00 ∧ s.cyc = 0 ∧
    s.fault = none ∧ (∀ addr, s.mem.read addr = 0x00)) ∧
  (∀ (a x y sp : Byte) (pc : Addr) (p : Byte) (mem : Memory),
    let s := State.start a x y sp pc p mem
    s.a = a ∧ s.x = x ∧ s.y = y ∧ s.sp = sp ∧ s.pc = pc ∧ s.p = p ∧ s.mem = mem ∧ s.cyc = 0 ∧
    s.fault = none)

/-- The invariant of the model holds of the state after construction (log 2). -/
def Obligations.ConstructionMeetsTheInvariant : Prop := Inv State.reset

/-- Every step keeps memory in its canonical form (log 2). -/
def Obligations.StepKeepsMemoryCanonical : Prop :=
  ∀ s t : State, Inv s → step s = .next t → Inv t

/-! ## ADC, AND and ASL -/

/-- 40_adc_and.md R152 (bytes and cycles are the table's, general knowledge by the spec's own mark; decimal mode is
the active parameter, log 4): each of the eight forms of ADC completes, with A and all flags as the rule gives
them and everything else unchanged but PC and CYC. -/
def Obligations.AdcAddsWithCarry : Prop :=
  ∀ (v : Byte) (w : Addr) (i : Instr) (s : State), i ∈ adcForms v w → s.fault = none →
    ∃ val extra k t, resolveValue .ADC i.mode s.x s.y s.mem = .ok (val, extra) ∧
      metricsOf activeConfig .ADC i.mode.variant = some k ∧ exec i s = .next t ∧
      AdcEffect val s t ∧ RegistersKept s t ∧ Advanced k extra s t ∧ MemoryKept s t

/-- 40_adc_and.md R151: V is 1 exactly when the signed sum lies outside [-128, 127]. -/
def Obligations.AdcOverflowIsSignedRange : Prop :=
  ∀ (acc val : Byte) (c : Bool),
    (adcOverflow acc val c = true ↔
      acc.toInt + val.toInt + (c.toNat : Int) < -128 ∨ 127 < acc.toInt + val.toInt + (c.toNat : Int))

/-- 00_scope.md R7 (decision D6): under Refuse, ADC with P.D = 1 has no meaning, and with P.D = 0 it is Binary's;
under Binary P.D is ignored: setting or clearing it beforehand changes nothing else. -/
def Obligations.DecimalAdcParameter : Prop :=
  ∀ (cfg : Config) (mode : AddressMode) (s : State) (k : ExecutionMetrics) (val : Byte) (extra : Nat),
    s.fault = none → metricsOf cfg .ADC mode.variant = some k →
    resolveValue .ADC mode s.x s.y s.mem = .ok (val, extra) →
    (getFlag .D s.p = true →
      execute { cfg with decimalAdc := .refuse } .ADC mode s = .refused .decimalAdc) ∧
    (getFlag .D s.p = false →
      execute { cfg with decimalAdc := .refuse } .ADC mode s =
        execute { cfg with decimalAdc := .binary } .ADC mode s) ∧
    (∀ d, ∃ t, execute { cfg with decimalAdc := .binary } .ADC mode s = .next t ∧ AdcEffect val s t ∧
      execute { cfg with decimalAdc := .binary } .ADC mode { s with p := setFlag .D d s.p } =
        .next { t with p := setFlag .D d t.p })

/-- 40_adc_and.md R153 (bytes and cycles are the table's, general knowledge by the spec's own mark): each of the
eight forms of AND completes, with A, N and Z as the rule gives them and everything else unchanged but PC and
CYC. -/
def Obligations.AndMasksTheAccumulator : Prop :=
  ∀ (v : Byte) (w : Addr) (i : Instr) (s : State), i ∈ andForms v w → s.fault = none →
    ∃ val extra k t, resolveValue .AND i.mode s.x s.y s.mem = .ok (val, extra) ∧
      metricsOf activeConfig .AND i.mode.variant = some k ∧ exec i s = .next t ∧
      AndEffect val s t ∧ RegistersKept s t ∧ Advanced k extra s t ∧ MemoryKept s t

/-- 41_asl.md R160 with the active parameter AslCarry = Canonical (log 3): ASL A completes; A is shifted left, C
takes the old bit 7, N and Z follow the result, and nothing else changes but PC and CYC. -/
def Obligations.AslShiftsTheAccumulator : Prop :=
  ∀ s : State, s.fault = none →
    ∃ k t, metricsOf activeConfig .ASL .implied = some k ∧ exec .aslImplied s = .next t ∧
      AslFlagsEffect .canonical s.a t.a s.p t.p ∧ RegistersKept s t ∧ Advanced k 0 s t ∧ MemoryKept s t

/-- 41_asl.md R161 with the active parameter AslCarry = Canonical (log 3): each memory form of ASL completes; the
byte at the effective address is shifted left, C takes its old bit 7, N and Z follow the result; every other
byte, A and everything else is unchanged but PC and CYC. -/
def Obligations.AslShiftsMemory : Prop :=
  ∀ (v : Byte) (w : Addr) (i : Instr) (s : State), i ∈ aslMemoryForms v w → s.fault = none →
    ∃ ea extra k t, resolveAddress .ASL i.mode s.x s.y s.mem = .ok (ea, extra) ∧
      metricsOf activeConfig .ASL i.mode.variant = some k ∧ exec i s = .next t ∧
      AslFlagsEffect .canonical (s.mem.read ea) (t.mem.read ea) s.p t.p ∧
      (∀ addr, addr ≠ ea → t.mem.read addr = s.mem.read addr) ∧
      t.a = s.a ∧ RegistersKept s t ∧ Advanced k extra s t

/-- 00_scope.md R6 (decision D5): under either value of AslCarry both shapes of ASL complete with the same result
and the carry that value gives, for any cost table with a row for the pair. -/
def Obligations.AslCarryParameter : Prop :=
  ∀ (cfg : Config) (s : State), s.fault = none →
    (∀ k, metricsOf cfg .ASL .implied = some k →
      ∃ t, execute cfg .ASL .implied s = .next t ∧
        AslFlagsEffect cfg.aslCarry s.a t.a s.p t.p ∧ RegistersKept s t ∧ Advanced k 0 s t ∧
        MemoryKept s t) ∧
    (∀ mode k ea extra, mode ≠ .implied → metricsOf cfg .ASL mode.variant = some k →
      resolveAddress .ASL mode s.x s.y s.mem = .ok (ea, extra) →
      ∃ t, execute cfg .ASL mode s = .next t ∧
        AslFlagsEffect cfg.aslCarry (s.mem.read ea) (t.mem.read ea) s.p t.p ∧
        (∀ addr, addr ≠ ea → t.mem.read addr = s.mem.read addr) ∧
        t.a = s.a ∧ RegistersKept s t ∧ Advanced k extra s t)

/-! ## The recognised mnemonics without semantics: their own effect is to raise NotYetImplemented, which is a next
state in which FAULT records the mnemonic and everything else is as before (log 1). -/

/-- 42_unimplemented.md R200 to R202, R204 to R206, R208, R209: the branches. -/
def Obligations.BranchesRaiseNotYetImplemented : Prop :=
  ∀ (v : Byte) (q : Instr × Mnemonic) (s : State), q ∈ branchForms v → s.fault = none →
    exec q.1 s = .next { s with fault := some (.notYetImplemented q.2) }

/-- 42_unimplemented.md R226 to R228, R244 to R246: the loads and stores. -/
def Obligations.LoadsAndStoresRaiseNotYetImplemented : Prop :=
  ∀ (v : Byte) (w : Addr) (q : Instr × Mnemonic) (s : State), q ∈ loadStoreForms v w → s.fault = none →
    exec q.1 s = .next { s with fault := some (.notYetImplemented q.2) }

/-- 42_unimplemented.md R203, R214 to R223, R231, R240: arithmetic, logic, compares, increments and decrements. -/
def Obligations.ArithmeticAndComparesRaiseNotYetImplemented : Prop :=
  ∀ (v : Byte) (w : Addr) (q : Instr × Mnemonic) (s : State), q ∈ arithmeticCompareForms v w →
    s.fault = none → exec q.1 s = .next { s with fault := some (.notYetImplemented q.2) }

/-- 42_unimplemented.md R229, R236, R237: LSR, ROL and ROR. -/
def Obligations.ShiftsAndRotatesRaiseNotYetImplemented : Prop :=
  ∀ (v : Byte) (w : Addr) (q : Instr × Mnemonic) (s : State), q ∈ shiftRotateForms v w → s.fault = none →
    exec q.1 s = .next { s with fault := some (.notYetImplemented q.2) }

/-- 42_unimplemented.md R207, R224, R225, R230, R238, R239: BRK, JMP, JSR, NOP, RTI and RTS. -/
def Obligations.ControlRaisesNotYetImplemented : Prop :=
  ∀ (w : Addr) (q : Instr × Mnemonic) (s : State), q ∈ controlForms w → s.fault = none →
    exec q.1 s = .next { s with fault := some (.notYetImplemented q.2) }

/-- 42_unimplemented.md R210 to R213, R232 to R235, R241 to R243, R247 to R252: flag instructions, transfers and
stack instructions. -/
def Obligations.FlagsTransfersStackRaiseNotYetImplemented : Prop :=
  ∀ (q : Instr × Mnemonic) (s : State), q ∈ flagSetForms ++ transferStackForms → s.fault = none →
    exec q.1 s = .next { s with fault := some (.notYetImplemented q.2) }

/-! ## Errors -/

/-- 60_exceptions.md R302: NotYetImplemented is raised, and records the mnemonic, exactly when the mnemonic is one of
the 53 without a semantic function, in every mode; through a step by the 130 opcode values of those mnemonics. -/
def Obligations.NotYetImplementedRaised : Prop :=
  (∀ (cfg : Config) (m : Mnemonic) (mode : AddressMode) (s : State), s.fault = none →
    (m ∉ implemented →
      execute cfg m mode s = .next { s with fault := some (.notYetImplemented m) }) ∧
    (m ∈ implemented → ∀ n t, execute cfg m mode s = .next t → t.fault ≠ some (.notYetImplemented n))) ∧
  (∀ s : State, s.fault = none → ∀ m,
    ((∃ t, step s = .next t ∧ t.fault = some (.notYetImplemented m)) ↔
      opcodeMnemonic (s.mem.read s.pc) = some m ∧ m ∉ implemented)) ∧
  ((List.range 256).filter (fun n =>
      match opcodeMnemonic (BitVec.ofNat 8 n) with
      | some m => !implemented.contains m
      | none => false)).length = 130

/-- 60_exceptions.md R301: UnsupportedAddressingMode records the mnemonic and the whole mode; it is raised when the
pair has no row or the resolver cannot resolve the mode of a row, and never through a step. -/
def Obligations.UnsupportedModeRaised : Prop :=
  (∀ (cfg : Config) (m : Mnemonic) (mode : AddressMode) (s : State), s.fault = none → m ∈ implemented →
    metricsOf cfg m mode.variant = none →
    execute cfg m mode s = .next { s with fault := some (.unsupportedAddressingMode m mode) }) ∧
  (∀ (cfg : Config) (m : Mnemonic) (mode : AddressMode) (s : State), s.fault = none → m ∈ implemented →
    (∃ b, mode = .zeroPageY b ∨ mode = .relative b ∨ (m = .ASL ∧ mode = .immediate b)) →
    execute cfg m mode s = .next { s with fault := some (.unsupportedAddressingMode m mode) }) ∧
  (∀ (s t : State) (m : Mnemonic) (mode : AddressMode), step s = .next t →
    t.fault ≠ some (.unsupportedAddressingMode m mode))

/-- 60_exceptions.md R306: an error writes FAULT and nothing else, whichever error it is and for any parameters. -/
def Obligations.ErrorWritesOnlyFault : Prop :=
  ∀ (cfg : Config) (s t : State),
    (∀ m mode, execute cfg m mode s = .next t → t.fault ≠ none → t = { s with fault := t.fault }) ∧
    (stepWith cfg s = .next t → t.fault ≠ none → t = { s with fault := t.fault })

/-- 60_exceptions.md R308: nothing clears FAULT: while it is not None there is no next state, whether by a step, by
a meaning or by `execute`; a new block has FAULT None. -/
def Obligations.NoStepAfterAnError : Prop :=
  (∀ s : State, s.fault ≠ none →
    (∀ t, step s ≠ .next t) ∧ (∀ i t, exec i s ≠ .next t) ∧
    (∀ cfg t, stepWith cfg s ≠ .next t) ∧ (∀ cfg m mode t, execute cfg m mode s ≠ .next t)) ∧
  State.reset.fault = none

/-- 70_reset_and_hazards.md R358, with the model's answer of log 1: a run that has reached an error never takes
another step, and a run that ends well had FAULT None after each of its steps. -/
def Obligations.RunStopsAtTheFirstError : Prop :=
  (∀ (k : Nat) (s t : State) (e : BlockError), Sys2Proof.core.run k s = .next t → t.fault = some e →
    ∀ j, k < j → Sys2Proof.core.run j s = .fault (.stopped e)) ∧
  (∀ (k : Nat) (s : State), EndsWell k s → ∀ j, j ≤ k → EndsWell j s)

/-- 30_encoding.md R100, 60_exceptions.md R303 (decision D10; log 14): each of the 105 listed opcode values raises
IllegalOpcode after the one read of the opcode. -/
def Obligations.IllegalOpcodesRaise : Prop :=
  ∀ (op : Byte) (s : State), op ∈ illegalOpcodes → s.fault = none → s.mem.read s.pc = op →
    step s = .next { s with fault := some (.illegalOpcode op) } ∧
    stepAccesses activeConfig s = [.read s.pc]

/-- 60_exceptions.md R304 (decision D9): the cause codes. -/
def Obligations.FaultCodes : Prop :=
  ∀ (m : Mnemonic) (mode : AddressMode) (op : Byte),
    faultCode none = 0 ∧ faultCode (some (.unsupportedAddressingMode m mode)) = 1 ∧
    faultCode (some (.notYetImplemented m)) = 2 ∧ faultCode (some (.illegalOpcode op)) = 3

/-! ## Encoding -/

/-- Derived from 30_encoding.md R90 to R99: decoding the bytes of any well-formed instruction gives it back, with
every operand, and leaves the bytes after it. -/
def Obligations.DecodeOfEncode : Prop :=
  ∀ (i : Instr) (rest : List Byte), i.wf = true → decode (encode i ++ rest) = .ok (i, rest)

/-- Derived from 30_encoding.md R90 to R99: bytes that decode are the encoding of what they decode to, which is well
formed and of the length its mode gives (R94). -/
def Obligations.EncodeOfDecode : Prop :=
  ∀ (bytes rest : List Byte) (i : Instr), decode bytes = .ok (i, rest) →
    bytes = encode i ++ rest ∧ i.wf = true ∧ (encode i).length = i.mode.variant.length

/-- Derived from 30_encoding.md R90, R104: an opcode byte identifies one (mnemonic, mode) pair; the bytes with an
instruction are those not listed as illegal; 21 belong to implemented mnemonics. -/
def Obligations.OpcodeIdentifiesThePair : Prop :=
  (∀ i j : Instr, i.opcode = j.opcode → i.mnemonic = j.mnemonic ∧ i.mode.variant = j.mode.variant) ∧
  (∀ (m : Mnemonic) (v : Variant),
    v ∈ m.variants ↔ ∃ i : Instr, i.mnemonic = m ∧ i.mode.variant = v) ∧
  (∀ op : Byte, opcodeFormat op = none ↔ op ∈ illegalOpcodes) ∧
  ((List.range 256).filter (fun n =>
      match opcodeMnemonic (BitVec.ofNat 8 n) with
      | some m => implemented.contains m
      | none => false)).length = 21

/-- Words of the opcode table, written out from its encodings (general knowledge by the spec's own mark, D3). -/
def Obligations.DecodedWords : Prop :=
  decodeTableWord 16 0x0569 = some (.adcImmediate 0x05) ∧
  decodeTableWord 24 0x12346D = some (.adcAbsolute 0x1234) ∧
  decodeTableWord 16 0x1031 = some (.andPostIndexedIndirectY 0x10) ∧
  decodeTableWord 8 0x0A = some .aslImplied ∧
  decodeTableWord 16 0x10B6 = some (.ldxZeroPageY 0x10) ∧
  decodeTableWord 24 0x20006C = some (.jmpIndirect 0x2000) ∧
  decodeTableWord 16 0xFED0 = some (.bneRelative 0xFE) ∧
  decodeTableWord 8 0x02 = none ∧ decodeTableWord 16 0x1072 = none

/-- 30_encoding.md R110 (decisions D2, D25): where the bytes at PC decode to an instruction, a step is its
meaning. -/
def Obligations.StepRunsTheDecodedInstruction : Prop :=
  ∀ (s : State) (i : Instr) (rest : List Byte), s.fault = none →
    decode [s.mem.read s.pc, s.mem.read (s.pc + 1), s.mem.read (s.pc + 2)] = .ok (i, rest) →
    step s = exec i s

/-- Derived from 30_encoding.md R97, R110: where memory holds the encoding of an instruction at PC, at addresses
modulo 65536, a step is its meaning, which is the engine's run of its pair. -/
def Obligations.StepRunsTheEncodedBytes : Prop :=
  ∀ (s : State) (i : Instr), s.fault = none →
    (∀ n b, (encode i)[n]? = some b → s.mem.read (s.pc + BitVec.ofNat 16 n) = b) →
    step s = exec i s ∧ exec i s = execute activeConfig i.mnemonic i.mode s

/-- The model's placement of a word (log 9): where the decoder reads an instruction from a word, a step of the
state with that word placed at PC is the instruction's meaning, and nothing but memory at PC, PC + 1 and PC + 2
was touched to place it. -/
def Obligations.PlacedWordRuns : Prop :=
  ∀ (s : State) (nbits w : Nat) (i : Instr), s.fault = none → decodeTableWord nbits w = some i →
    step (s.withFetchWord nbits w) = exec i (s.withFetchWord nbits w) ∧
    { s.withFetchWord nbits w with mem := s.mem } = s ∧
    (∀ addr, addr ≠ s.pc → addr ≠ s.pc + 1 → addr ≠ s.pc + 2 →
      (s.withFetchWord nbits w).mem.read addr = s.mem.read addr)

/-- 30_encoding.md R105 (general knowledge by the spec's own mark; log 23): the examples of the notation table. -/
def Obligations.AssemblerExamples : Prop :=
  ∀ label : Byte → String,
    asm label .aslImplied = "ASL A" ∧ asm label (.adcImmediate 0x05) = "ADC #$05" ∧
    asm label (.adcZeroPage 0x42) = "ADC $42" ∧ asm label (.andZeroPageX 0xF0) = "AND $F0,X" ∧
    asm label (.ldxZeroPageY 0x10) = "LDX $10,Y" ∧ asm label (.aslAbsolute 0x1234) = "ASL $1234" ∧
    asm label (.adcAbsoluteX 0x12F0) = "ADC $12F0,X" ∧ asm label (.andAbsoluteY 0x2000) = "AND $2000,Y" ∧
    asm label (.jmpIndirect 0x1234) = "JMP ($1234)" ∧
    asm label (.adcPreIndexedIndirectX 0x08) = "ADC ($08,X)" ∧
    asm label (.adcPostIndexedIndirectY 0x10) = "ADC ($10),Y"

/-! ## Rules over every instruction -/

/-- Derived from 10_state.md R22, R23: no instruction writes X or Y, and resolution of a mode the rules do not name
does not depend on them. -/
def Obligations.IndexRegistersAreOnlyRead : Prop :=
  (∀ (cfg : Config) (s t : State),
    (∀ m mode, execute cfg m mode s = .next t → t.x = s.x ∧ t.y = s.y) ∧
    (stepWith cfg s = .next t → t.x = s.x ∧ t.y = s.y)) ∧
  (∀ (m : Mnemonic) (mode : AddressMode) (x x' y y' : Byte) (mem : Memory),
    (mode.variant ∉ [.zeroPageX, .absoluteX, .preIndexedIndirectX] →
      resolveAddress m mode x y mem = resolveAddress m mode x' y mem ∧
      resolveValue m mode x y mem = resolveValue m mode x' y mem) ∧
    (mode.variant ∉ [.absoluteY, .postIndexedIndirectY] →
      resolveAddress m mode x y mem = resolveAddress m mode x y' mem ∧
      resolveValue m mode x y mem = resolveValue m mode x y' mem))

/-- 10_state.md R24: no instruction reads or writes SP: a step from a state with another SP is the same step with
that SP in the result. -/
def Obligations.StackPointerIsUnused : Prop :=
  ∀ (cfg : Config) (s t : State) (v : Byte),
    (stepWith cfg s = .next t → t.sp = s.sp ∧ stepWith cfg { s with sp := v } = .next { t with sp := v }) ∧
    (∀ m mode, execute cfg m mode s = .next t →
      t.sp = s.sp ∧ execute cfg m mode { s with sp := v } = .next { t with sp := v })

/-- Derived from 10_state.md R29, R32 to R34: no step changes bit 5, B, D or I. -/
def Obligations.StatusControlBitsNeverChange : Prop :=
  ∀ (cfg : Config) (s t : State), stepWith cfg s = .next t →
    FlagsKept [.N, .V, .Z, .C] s.p t.p

/-- Derived from 10_state.md R31, R36, 60_exceptions.md R312: only ADC changes V, only ADC and ASL change C, and only
ADC, AND and ASL change P at all. -/
def Obligations.WritersOfTheFlags : Prop :=
  ∀ (s t : State) (i : Instr), fetch s.mem s.pc = .ok i → step s = .next t →
    (getFlag .V t.p ≠ getFlag .V s.p → i.mnemonic = .ADC) ∧
    (getFlag .C t.p ≠ getFlag .C s.p → i.mnemonic = .ADC ∨ i.mnemonic = .ASL) ∧
    (t.p ≠ s.p → i.mnemonic ∈ implemented)

/-- Derived from 10_state.md R21: only ADC, AND and ASL Implied change A. -/
def Obligations.WritersOfTheAccumulator : Prop :=
  ∀ (s t : State) (i : Instr), fetch s.mem s.pc = .ok i → step s = .next t → t.a ≠ s.a →
    i.mnemonic = .ADC ∨ i.mnemonic = .AND ∨ i = .aslImplied

/-- Derived from 10_state.md R25 (decision D16): a step that completes advances PC by the instruction's length modulo
65536, and no step changes PC otherwise. -/
def Obligations.PcAdvancesByTheLength : Prop :=
  ∀ s t : State, step s = .next t →
    (t.fault = none ∧ ∃ i, fetch s.mem s.pc = .ok i ∧
      t.pc = s.pc + BitVec.ofNat 16 (encode i).length) ∨
    (t.fault ≠ none ∧ t.pc = s.pc)

/-- Derived from 10_state.md R37, 30_encoding.md R101: a step that completes adds 2 to 7 cycles to CYC, wrapping, and
a step that raises an error adds none (the cycle values are the table's, log 5). -/
def Obligations.CyclesPerStep : Prop :=
  ∀ s t : State, step s = .next t →
    (t.fault = none ∧ ∃ n, 2 ≤ n ∧ n ≤ 7 ∧ t.cyc.toNat = (s.cyc.toNat + n) % 2 ^ 64) ∨
    (t.fault ≠ none ∧ t.cyc = s.cyc)

/-- 30_encoding.md R101 (general knowledge by the spec's own mark; log 5): the cost table has the 21 rows and no other
row. -/
def Obligations.CostTableRows : Prop :=
  (∀ r ∈ costs, metricsOf activeConfig r.1 r.2.1 =
    some ⟨BitVec.ofNat 8 r.2.2.1, r.2.2.2.1, r.2.2.2.2⟩) ∧
  (∀ (m : Mnemonic) (v : Variant), (metricsOf activeConfig m v).isSome = true →
    ∃ r ∈ costs, r.1 = m ∧ r.2.1 = v) ∧
  (∀ i : Instr, i.mnemonic ∈ implemented → ∃ k, metricsOf activeConfig i.mnemonic i.mode.variant = some k ∧
    k.opcode = i.opcode ∧ k.bytes = (encode i).length)

/-- Derived from 20_memory.md R52, R58: a byte that a step changes is the byte at the effective address of a memory
form of ASL, and it becomes that byte shifted left by one. -/
def Obligations.OnlyAslChangesMemory : Prop :=
  ∀ (s t : State) (addr : Addr), step s = .next t → t.mem.read addr ≠ s.mem.read addr →
    ∃ v w i extra, i ∈ aslMemoryForms v w ∧ fetch s.mem s.pc = .ok i ∧
      resolveAddress .ASL i.mode s.x s.y s.mem = .ok (addr, extra) ∧
      (t.mem.read addr).toNat = 2 * (s.mem.read addr).toNat % 256

/-- Derived from 20_memory.md R58, 30_encoding.md R98 (decision D11; log 12): a step reads no byte outside its
accesses: with any memory that agrees on the bytes they read, it makes the same accesses and leaves the same
block state or stops the same way. -/
def Obligations.StepReadsOnlyItsAccesses : Prop :=
  ∀ (cfg : Config) (s : State) (mem' : Memory), AgreeOnReads (stepAccesses cfg s) s.mem mem' →
    stepAccesses cfg { s with mem := mem' } = stepAccesses cfg s ∧
    blockOutcome (stepWith cfg { s with mem := mem' }) = blockOutcome (stepWith cfg s)

/-- Derived from 20_memory.md R57, R58 (decision D11; log 12): after a step memory holds what the writes among its
accesses put there, and every other byte as before. -/
def Obligations.StepWritesItsAccesses : Prop :=
  ∀ (cfg : Config) (s t : State) (addr : Addr), stepWith cfg s = .next t →
    t.mem.read addr = byteAfter addr (stepAccesses cfg s) (s.mem.read addr)

/-- Derived from 20_memory.md R58 (decision D11; log 12): the number of accesses of a step of each implemented form,
and of a step of an instruction without semantics. -/
def Obligations.AccessesPerStep : Prop :=
  (∀ (v : Byte) (w : Addr) (q : Instr × Nat) (s : State), q ∈ accessCounts v w → s.fault = none →
    fetch s.mem s.pc = .ok q.1 → (stepAccesses activeConfig s).length = q.2) ∧
  (∀ (i : Instr) (s : State), i.mnemonic ∉ implemented → s.fault = none → fetch s.mem s.pc = .ok i →
    (stepAccesses activeConfig s).length = (encode i).length)

/-! ## The parameter CostTable -/

/-- Derived from 00_scope.md R8, 30_encoding.md R97, R98: for any table, the opcode bytes and lengths decide what the
decoder reads and what a step executes.
1. An opcode byte with no row raises IllegalOpcode after one read (D10; that an error is a next state is log 1).
2. One with a row of its mode's length (R94) is a run of the row's mnemonic, in the row's mode with the operand bytes
   that follow, after as many reads as the length.
3. One with a row of any length is a run of the row's mnemonic in the mode that R97 builds from two bytes: byte 1 is
   read when the length is at least 2, byte 2 when it is 3. Nothing is said of a byte that was not read (the model's
   free value, log 26).
4. Where no two rows of the two tables share an opcode byte, as in every table R90 allows, each row is found at its
   opcode byte.
5. The model's choice (log 26): where they do share one, the cost table's first row still is.
6. Changing cycles changes no decoding. -/
def Obligations.CostTableDecidesDecoding : Prop :=
  (∀ (cfg : Config) (s : State), s.fault = none → decodeRow cfg (s.mem.read s.pc) = none →
    stepWith cfg s = .next { s with fault := some (.illegalOpcode (s.mem.read s.pc)) } ∧
    stepAccesses cfg s = [.read s.pc]) ∧
  (∀ (cfg : Config) (s : State) (r : DecodeRow), s.fault = none → decodeRow cfg (s.mem.read s.pc) = some r →
    r.bytes = r.variant.length →
    ∃ mode, mode.variant = r.variant ∧
      mode.operandBytes =
        (List.range (r.bytes - 1)).map (fun n => s.mem.read (s.pc + BitVec.ofNat 16 (n + 1))) ∧
      stepWith cfg s = execute cfg r.mnemonic mode s ∧
      stepAccesses cfg s =
        (List.range r.bytes).map (fun n => .read (s.pc + BitVec.ofNat 16 n)) ++
          executeAccesses cfg r.mnemonic mode s) ∧
  (∀ (cfg : Config) (s : State) (r : DecodeRow), s.fault = none → decodeRow cfg (s.mem.read s.pc) = some r →
    ∃ b1 b2, (2 ≤ r.bytes → b1 = s.mem.read (s.pc + 1)) ∧ (r.bytes = 3 → b2 = s.mem.read (s.pc + 2)) ∧
      stepWith cfg s = execute cfg r.mnemonic (buildMode r.variant b1 b2) s) ∧
  (∀ cfg : Config,
    ((cfg.costTable.map CostRow.decodeRow ++ cfg.recognisedTable).map DecodeRow.opcode).Nodup →
    (∀ r ∈ cfg.costTable,
      decodeRow cfg r.metrics.opcode = some ⟨r.metrics.opcode, r.mnemonic, r.variant, r.metrics.bytes⟩) ∧
    (∀ r ∈ cfg.recognisedTable, decodeRow cfg r.opcode = some r)) ∧
  (∀ (cfg : Config) (r : CostRow) (rest : List CostRow), cfg.costTable = r :: rest →
    decodeRow cfg r.metrics.opcode = some ⟨r.metrics.opcode, r.mnemonic, r.variant, r.metrics.bytes⟩) ∧
  (∀ (cfg : Config) (cycles : CostRow → Nat) (op : Byte),
    decodeRow { cfg with costTable := cfg.costTable.map (fun r =>
      { r with metrics := { r.metrics with cycles := cycles r } }) } op = decodeRow cfg op)

/-- 30_encoding.md R99 to R102 (general knowledge by the spec's own mark; log 6): the active table has a row for each
of the 151 instructions, with its opcode, mnemonic, mode and length, and none for the 105 illegal values; no two of
its rows share an opcode byte. -/
def Obligations.ActiveTableIsTheOpcodeMap : Prop :=
  (∀ i : Instr, decodeRow activeConfig i.opcode =
    some ⟨i.opcode, i.mnemonic, i.mode.variant, (encode i).length⟩) ∧
  (∀ op : Byte, decodeRow activeConfig op = none ↔ op ∈ illegalOpcodes) ∧
  ((activeConfig.costTable.map CostRow.decodeRow ++ activeConfig.recognisedTable).map DecodeRow.opcode).Nodup
end

