-- ==== Sys2Proof/Laws/Decode.lean ====
section
/-! SUPPORT. The laws of byte order and of the decoder's formats. -/

namespace Sys2Proof

theorem fromBytes_toNat (low high : Byte) :
    (fromBytes low high).toNat = high.toNat * 256 + low.toNat := by
  have := low.isLt
  unfold fromBytes
  rw [BitVec.toNat_append, ← Nat.shiftLeft_add_eq_or_of_lt this, Nat.shiftLeft_eq]

theorem lo_toNat (a : Addr) : (lo a).toNat = a.toNat % 256 := by
  simp [lo, BitVec.extractLsb'_toNat]

theorem hi_toNat (a : Addr) : (hi a).toNat = a.toNat / 256 := by
  have := a.isLt
  simp [hi, BitVec.extractLsb'_toNat, Nat.shiftRight_eq_div_pow]; omega

@[simp] theorem fromBytes_lo_hi (a : Addr) : fromBytes (lo a) (hi a) = a := by
  apply BitVec.eq_of_toNat_eq
  rw [fromBytes_toNat, lo_toNat, hi_toNat]; omega

@[simp] theorem lo_fromBytes (low high : Byte) : lo (fromBytes low high) = low := by
  apply BitVec.eq_of_toNat_eq
  rw [lo_toNat, fromBytes_toNat]; omega

@[simp] theorem hi_fromBytes (low high : Byte) : hi (fromBytes low high) = high := by
  apply BitVec.eq_of_toNat_eq
  rw [hi_toNat, fromBytes_toNat]; omega

/-! `decode`, one lemma per format. -/

theorem decode_illegal {op : Byte} (h : opcodeFormat op = none) (bytes : List Byte) :
    decode (op :: bytes) = .error (.illegalOpcode op) := by
  simp [decode, h]

theorem decode_f1 {op : Byte} {i : Instr} (h : opcodeFormat op = some (.f1 i)) (rest : List Byte) :
    decode (op :: rest) = .ok (i, rest) := by
  simp [decode, h]

theorem decode_f2 {op : Byte} {build : Byte → Instr} (h : opcodeFormat op = some (.f2 build)) (b : Byte)
    (rest : List Byte) : decode (op :: b :: rest) = .ok (build b, rest) := by
  simp [decode, h]

theorem decode_f3 {op : Byte} {build : Addr → Instr} (h : opcodeFormat op = some (.f3 build)) (b c : Byte)
    (rest : List Byte) : decode (op :: b :: c :: rest) = .ok (build (fromBytes b c), rest) := by
  simp [decode, h]

/-- What an entry of the opcode map says of the instructions it builds: their opcode is its byte, and their operand
bytes and length are its format's. -/
def FormatSound (op : Byte) : Option Format → Prop
  | none => True
  | some (.f1 i) => i.opcode = op ∧ i.mode.operandBytes = [] ∧ i.mode.variant.length = 1
  | some (.f2 build) => ∀ v, (build v).opcode = op ∧ (build v).mode.operandBytes = [v] ∧
      (build v).mode.variant.length = 2
  | some (.f3 build) => ∀ v, (build v).opcode = op ∧ (build v).mode.operandBytes = [lo v, hi v] ∧
      (build v).mode.variant.length = 3

theorem opcodeFormat_sound (op : Byte) : FormatSound op (opcodeFormat op) := by
  have e : op = BitVec.ofNat 8 op.toNat := by simp
  have hn := op.isLt
  rw [e]
  generalize op.toNat = n at hn
  clear e
  interval_cases n <;> first | trivial | exact ⟨rfl, rfl, rfl⟩ | exact fun v => ⟨rfl, rfl, rfl⟩

end Sys2Proof
end

