-- ==== Sys2Proof/Laws/Decoder.lean ====
section
/-! SUPPORT. The laws of the fetch and of the decoder for any parameters, and that with the active parameters the
two agree. -/

namespace Sys2Proof.Machine

theorem fetch_error {mem : Memory} {pc : Addr} {e : BlockError} (h : fetch mem pc = .error e) :
    opcodeFormat (mem.read pc) = none ∧ e = .illegalOpcode (mem.read pc) := by
  unfold fetch at h
  split at h
  · next hn => cases h; exact ⟨hn, rfl⟩
  all_goals cases h

/-- The fetch reads what the decoder reads in the bytes at PC. -/
theorem fetch_of_decode {mem : Memory} {pc : Addr} {i : Instr} {rest : List Byte}
    (h : decode [mem.read pc, mem.read (pc + 1), mem.read (pc + 2)] = .ok (i, rest)) :
    fetch mem pc = .ok i := by
  simp only [decode] at h
  unfold fetch
  cases hf : opcodeFormat (mem.read pc) with
  | none => simp [hf] at h
  | some f => cases f <;> simp [hf] at h <;> simp [h]

/-- An instruction that the fetch reads has the opcode at PC. -/
theorem fetch_opcode {mem : Memory} {pc : Addr} {i : Instr} (h : fetch mem pc = .ok i) :
    i.opcode = mem.read pc := by
  have hs := opcodeFormat_sound (mem.read pc)
  unfold fetch at h
  split at h <;> rename_i hf <;> rw [hf] at hs <;> cases h
  · exact hs.1
  · exact (hs _).1
  · exact (hs _).1

/-! The decoder for any parameters. -/

/-- The decoder's only error. -/
theorem decodeAt_error {cfg : Config} {mem : Memory} {pc : Addr} {cyc : Cycles} {e : BlockError}
    (h : decodeAt cfg mem pc cyc = .error e) :
    decodeRow cfg (mem.read pc) = none ∧ e = .illegalOpcode (mem.read pc) := by
  unfold decodeAt at h
  cases hr : decodeRow cfg (mem.read pc) with
  | none => simp only [hr] at h; cases h; exact ⟨rfl, rfl⟩
  | some r => simp only [hr] at h; cases h

theorem decodeAt_illegal {cfg : Config} {mem : Memory} {pc : Addr} {cyc : Cycles}
    (h : decodeRow cfg (mem.read pc) = none) :
    decodeAt cfg mem pc cyc = .error (.illegalOpcode (mem.read pc)) := by
  simp only [decodeAt, h]

/-- `buildMode` builds a mode of its variant. -/
@[simp] theorem buildMode_variant (kind : Variant) (b1 b2 : Byte) : (buildMode kind b1 b2).variant = kind := by
  cases kind <;> rfl

/-- The row that a cell of the opcode map stands for at an opcode byte. -/
def rowOfFormat (op : Byte) : Format → DecodeRow
  | .f1 i => ⟨op, i.mnemonic, i.mode.variant, 1⟩
  | .f2 build => ⟨op, (build 0).mnemonic, (build 0).mode.variant, 2⟩
  | .f3 build => ⟨op, (build 0).mnemonic, (build 0).mode.variant, 3⟩

/-- The active table's row at each opcode byte is that of the opcode map. -/
theorem decodeRow_active (op : Byte) : decodeRow activeConfig op = (opcodeFormat op).map (rowOfFormat op) := by
  have key : ∀ n : Fin 256, decodeRow activeConfig (BitVec.ofFin n) =
      (opcodeFormat (BitVec.ofFin n)).map (rowOfFormat (BitVec.ofFin n)) := by decide +kernel
  exact key op.toFin

/-- What a cell builds is what `buildMode` builds: one mnemonic, and the mode of the cell's variant. -/
def FormatBuilds : Option Format → Prop
  | none => True
  | some (.f1 i) => ∀ b c, buildMode i.mode.variant b c = i.mode
  | some (.f2 build) => ∀ b c, (build b).mnemonic = (build 0).mnemonic ∧
      buildMode (build 0).mode.variant b c = (build b).mode
  | some (.f3 build) => ∀ b c, (build (fromBytes b c)).mnemonic = (build 0).mnemonic ∧
      buildMode (build 0).mode.variant b c = (build (fromBytes b c)).mode

theorem opcodeFormat_builds (op : Byte) : FormatBuilds (opcodeFormat op) := by
  have e : op = BitVec.ofNat 8 op.toNat := by simp
  have hn := op.isLt
  rw [e]
  generalize op.toNat = n at hn
  clear e
  interval_cases n <;> first | trivial | exact fun _ _ => rfl | exact fun _ _ => ⟨rfl, rfl⟩

/-- With the active parameters the decoder is the fetch. -/
theorem decodeAt_active (mem : Memory) (pc : Addr) (cyc : Cycles) :
    decodeAt activeConfig mem pc cyc = (fetch mem pc).map (fun i => (i.mnemonic, i.mode)) := by
  have h := opcodeFormat_builds (mem.read pc)
  simp only [decodeAt, fetch, decodeRow_active]
  cases hf : opcodeFormat (mem.read pc) with
  | none => rfl
  | some f =>
    rw [hf] at h
    cases f with
    | f1 i => exact congrArg (fun mode => Except.ok (i.mnemonic, mode)) (h _ _)
    | f2 build =>
      have hb := h (mem.read (pc + 1)) (Config.unreadOperand (mem.read pc) pc cyc 2)
      exact congrArg Except.ok (Prod.ext hb.1.symm hb.2)
    | f3 build =>
      have hb := h (mem.read (pc + 1)) (mem.read (pc + 2))
      exact congrArg Except.ok (Prod.ext hb.1.symm hb.2)

end Sys2Proof.Machine
end

