-- ==== Sys2Proof/Laws/Flags.lean ====
section
/-! SUPPORT. The laws of the status register's operations, flag by flag and for the bit without a name. -/

namespace Sys2Proof.Machine

@[simp] theorem getFlag_setFlag (f g : Flag) (b : Bool) (p : Byte) :
    getFlag g (setFlag f b p) = if g = f then b else getFlag g p := by
  cases f <;> cases g <;> cases b <;> simp [getFlag, setFlag, Flag.bit]

@[simp] theorem reservedBit_setFlag (f : Flag) (b : Bool) (p : Byte) :
    reservedBit (setFlag f b p) = reservedBit p := by
  cases f <;> cases b <;> simp [reservedBit, setFlag, Flag.bit]

/-- A status byte is its seven flags and bit 5. -/
theorem status_ext {p q : Byte} (hf : ∀ f, getFlag f p = getFlag f q)
    (h5 : reservedBit p = reservedBit q) : p = q := by
  apply BitVec.eq_of_getLsbD_eq
  intro i hi
  match i, hi with
  | 0, _ => exact hf .C
  | 1, _ => exact hf .Z
  | 2, _ => exact hf .I
  | 3, _ => exact hf .D
  | 4, _ => exact hf .B
  | 5, _ => exact h5
  | 6, _ => exact hf .V
  | 7, _ => exact hf .N

@[simp] theorem getFlag_setNZ (f : Flag) (r p : Byte) :
    getFlag f (setNZ r p) = if f = .Z then r == 0x00 else if f = .N then r.getLsbD 7 else getFlag f p := by
  simp [setNZ]

@[simp] theorem reservedBit_setNZ (r p : Byte) : reservedBit (setNZ r p) = reservedBit p := by
  simp [setNZ]

/-- ADC's status byte, flag by flag. -/
theorem getFlag_adcFlags (f : Flag) (acc val p : Byte) :
    getFlag f (adcFlags acc val p) =
      match f with
      | .N => (adcResult acc val (getFlag .C p)).getLsbD 7
      | .Z => adcResult acc val (getFlag .C p) == 0x00
      | .V => adcOverflow acc val (getFlag .C p)
      | .C => adcCarry acc val (getFlag .C p)
      | .B => getFlag .B p
      | .D => getFlag .D p
      | .I => getFlag .I p := by
  cases f <;> simp [adcFlags]

@[simp] theorem reservedBit_adcFlags (acc val p : Byte) :
    reservedBit (adcFlags acc val p) = reservedBit p := by
  simp [adcFlags]

/-- ASL's status byte, flag by flag. -/
theorem getFlag_aslFlags (cfg : Config) (f : Flag) (v p : Byte) :
    getFlag f (aslFlags cfg v p) =
      match f with
      | .N => (aslResult v).getLsbD 7
      | .Z => aslResult v == 0x00
      | .C => if cfg.aslCarry = .canonical then v.getLsbD 7 else getFlag .C p
      | .V => getFlag .V p
      | .B => getFlag .B p
      | .D => getFlag .D p
      | .I => getFlag .I p := by
  cases h : cfg.aslCarry <;> cases f <;> simp [aslFlags, h]

@[simp] theorem reservedBit_aslFlags (cfg : Config) (v p : Byte) :
    reservedBit (aslFlags cfg v p) = reservedBit p := by
  cases h : cfg.aslCarry <;> simp [aslFlags, h]

/-! The arithmetic of ADC and ASL in natural numbers. -/

theorem adcSum_lt (acc val : Byte) (c : Bool) : adcSum acc val c < 512 := by
  have := acc.isLt
  have := val.isLt
  have := Bool.toNat_lt c
  unfold adcSum; omega

theorem adcResult_toNat (acc val : Byte) (c : Bool) :
    (adcResult acc val c).toNat = (acc.toNat + val.toNat + c.toNat) % 256 := by
  simp [adcResult, adcSum]

theorem adcCarry_eq (acc val : Byte) (c : Bool) :
    adcCarry acc val c = decide (256 ≤ acc.toNat + val.toNat + c.toNat) := by
  have h := adcSum_lt acc val c
  unfold adcCarry
  rw [Nat.testBit_eq_decide_div_mod_eq, decide_eq_decide]
  unfold adcSum at h ⊢; omega

theorem adcOverflow_eq (acc val : Byte) (c : Bool) :
    adcOverflow acc val c =
      (decide (128 ≤ acc.toNat % 128 + val.toNat % 128 + c.toNat) ^^
        decide (256 ≤ acc.toNat + val.toNat + c.toNat)) := by
  have low7 (v : Byte) : (v &&& 0x7F).toNat = v.toNat % 128 := by
    rw [BitVec.toNat_and]; exact Nat.and_two_pow_sub_one_eq_mod v.toNat 7
  have := Bool.toNat_lt c
  simp only [adcOverflow, low7, adcCarry_eq]
  congr 1
  rw [Nat.testBit_eq_decide_div_mod_eq, decide_eq_decide]; omega

theorem aslResult_toNat (v : Byte) : (aslResult v).toNat = 2 * v.toNat % 256 := by
  simp only [aslResult, BitVec.toNat_shiftLeft, Nat.shiftLeft_eq]; omega

end Sys2Proof.Machine
end

