-- ==== Sys2Proof/Laws/Memory.lean ====
section
/-! SUPPORT. The laws of memory: read after write, and the canonical form that every operation keeps. -/

namespace Sys2Proof.Machine

variable (m : Memory)

theorem Memory.readAt_nil (k : Nat) : Memory.readAt [] k = unlistedByte := rfl

theorem Memory.readAt_cons (b : Nat) (v : Byte) (k : Nat) :
    Memory.readAt ((b, v) :: m) k = if b = k then v else Memory.readAt m k := rfl

theorem Memory.readAt_erase (k j : Nat) :
    (m.erase k).readAt j = if j = k then unlistedByte else m.readAt j := by
  induction m with
  | nil => simp [Memory.erase, Memory.readAt]
  | cons c m ih =>
    obtain ⟨b, v⟩ := c
    simp only [Memory.erase] at ih
    by_cases hb : b = k <;> by_cases hj : j = k <;>
      simp_all [Memory.erase, Memory.readAt]
    · intro h; exact absurd h.symm hj

theorem Memory.readAt_insert (k j : Nat) (v : Byte) :
    (m.insert k v).readAt j = if j = k then v else m.readAt j := by
  induction m with
  | nil => simp [Memory.insert, Memory.readAt, eq_comm]
  | cons c m ih =>
    obtain ⟨b, w⟩ := c
    simp only [Memory.insert]
    split
    · simp [Memory.readAt, eq_comm]
    · split
      · subst_vars; by_cases hj : j = b <;> simp [Memory.readAt, hj, eq_comm]
      · rename_i hb
        simp only [Memory.readAt, ih]
        by_cases hj : j = k
        · subst hj; simp [hb]
        · simp [hj]

/-- Reading one address after writing another, or the same. -/
theorem Memory.read_write (a b : Addr) (v : Byte) :
    (m.write a v).read b = if b = a then v else m.read b := by
  have key : (b.toNat = a.toNat) ↔ b = a := BitVec.toNat_inj
  unfold Memory.write Memory.read
  split
  · subst_vars; simp [Memory.readAt_erase, key]
  · simp [Memory.readAt_insert, key]

@[simp] theorem Memory.read_write_same (a : Addr) (v : Byte) : (m.write a v).read a = v := by
  simp [Memory.read_write]

theorem Memory.read_write_ne {a b : Addr} (h : b ≠ a) (v : Byte) :
    (m.write a v).read b = m.read b := by
  simp [Memory.read_write, h]

theorem Memory.wf_nil : Memory.wf [] := by simp [Memory.wf]

theorem Memory.wf_erase {m : Memory} (h : m.wf) (k : Nat) : (m.erase k).wf :=
  ⟨h.1.filter _, fun c hc => h.2 c (List.mem_of_mem_filter hc)⟩

theorem Memory.mem_insert {k : Nat} {v : Byte} {c : Host.Cell} {m : Memory}
    (h : c ∈ m.insert k v) : c = (k, v) ∨ c ∈ m := by
  induction m with
  | nil => simpa [Memory.insert] using h
  | cons d m ih =>
    obtain ⟨b, w⟩ := d
    simp only [Memory.insert] at h
    split at h
    · simpa using h
    · split at h
      · rcases List.mem_cons.mp h with h | h
        · exact .inl h
        · exact .inr (List.mem_cons_of_mem _ h)
      · rcases List.mem_cons.mp h with h | h
        · exact .inr (h ▸ List.mem_cons_self)
        · exact (ih h).imp id (List.mem_cons_of_mem _)

theorem Memory.wf_insert {m : Memory} (h : m.wf) {k : Nat} (hk : k < 65536) {v : Byte}
    (hv : v ≠ unlistedByte) : (m.insert k v).wf := by
  refine ⟨?_, fun c hc => ?_⟩
  · induction m with
    | nil => simp [Memory.insert]
    | cons d m ih =>
      obtain ⟨b, w⟩ := d
      have hp := List.pairwise_cons.mp h.1
      have hm : Memory.wf m := ⟨hp.2, fun c hc => h.2 c (List.mem_cons_of_mem _ hc)⟩
      simp only [Memory.insert]
      split
      · rename_i hlt
        refine List.pairwise_cons.mpr ⟨fun c hc => ?_, h.1⟩
        rcases List.mem_cons.mp hc with rfl | hc
        · exact hlt
        · exact Nat.lt_trans hlt (hp.1 c hc)
      · split
        · subst_vars; exact List.pairwise_cons.mpr ⟨hp.1, hp.2⟩
        · refine List.pairwise_cons.mpr ⟨fun c hc => ?_, ih hm⟩
          rcases Memory.mem_insert hc with rfl | hc
          · show b < k; omega
          · exact hp.1 c hc
  · rcases Memory.mem_insert hc with rfl | hc
    · exact ⟨hk, hv⟩
    · exact h.2 c hc

/-- A write keeps the canonical form. -/
theorem Memory.wf_write {m : Memory} (h : m.wf) (a : Addr) (v : Byte) : (m.write a v).wf := by
  unfold Memory.write
  split
  · exact Memory.wf_erase h _
  · rename_i hv; exact Memory.wf_insert h a.isLt hv

/-- Placing a program keeps the canonical form. -/
theorem Memory.wf_load {m : Memory} (h : m.wf) (a : Addr) (bs : List Byte) : (m.load a bs).wf := by
  induction bs generalizing m a with
  | nil => exact h
  | cons b bs ih => exact ih (Memory.wf_write h a b) _

theorem Memory.load_nil (a : Addr) : m.load a [] = m := rfl

theorem Memory.load_cons (a : Addr) (b : Byte) (bs : List Byte) :
    m.load a (b :: bs) = (m.write a b).load (a + 1) bs := rfl

end Sys2Proof.Machine
end

