-- ==== Sys2Proof/Laws/Operands.lean ====
section
/-! SUPPORT. The laws of the address_mode_resolver. -/

namespace Sys2Proof.Machine

theorem upgrade_toNat (z : Byte) : (upgrade z).toNat = z.toNat := by
  simp [upgrade, fromBytes_toNat]

theorem addCheckPageCross_fst (a : Addr) (d : Byte) :
    (addCheckPageCross a d).1 = a + d.setWidth 16 := rfl

theorem addCheckPageCross_snd (a : Addr) (d : Byte) :
    (addCheckPageCross a d).2 = (hi (a + d.setWidth 16) != hi a) := rfl

theorem indexed_fst (a : Addr) (d : Byte) : (indexed a d).1 = a + d.setWidth 16 := rfl

/-- The extra cycle is 0 or 1. -/
theorem indexed_snd_le (a : Addr) (d : Byte) : (indexed a d).2 ≤ 1 := by
  simp only [indexed]; exact Bool.toNat_le _

/-- The resolver's only error. -/
theorem resolveAddress_error {m : Mnemonic} {mode : AddressMode} {x y : Byte} {mem : Memory}
    {e : BlockError} (h : resolveAddress m mode x y mem = .error e) :
    e = .unsupportedAddressingMode m mode := by
  cases mode <;> simp_all [resolveAddress]

theorem resolveAddress_extra_le {m : Mnemonic} {mode : AddressMode} {x y : Byte} {mem : Memory}
    {ea : Addr} {extra : Nat} (h : resolveAddress m mode x y mem = .ok (ea, extra)) : extra ≤ 1 := by
  cases mode <;> simp only [resolveAddress, Except.ok.injEq, reduceCtorEq] at h
  case absoluteX a => exact le_of_eq_of_le (congrArg Prod.snd h).symm <| indexed_snd_le a x
  case absoluteY a => exact le_of_eq_of_le (congrArg Prod.snd h).symm <| indexed_snd_le a y
  case postIndexedIndirectY z => exact le_of_eq_of_le (congrArg Prod.snd h).symm <| indexed_snd_le _ y
  all_goals exact (Prod.mk.inj h).2 ▸ Nat.zero_le 1

/-- `resolve_value` is Immediate's embedded byte, or the byte at the effective address. -/
theorem resolveValue_cases (m : Mnemonic) (mode : AddressMode) (x y : Byte) (mem : Memory) :
    (∃ b, mode = .immediate b ∧ resolveValue m mode x y mem = .ok (b, 0)) ∨
    (∃ ea extra, resolveAddress m mode x y mem = .ok (ea, extra) ∧
      resolveValue m mode x y mem = .ok (mem.read ea, extra)) ∨
    ((∀ b, mode ≠ .immediate b) ∧
      resolveValue m mode x y mem = .error (.unsupportedAddressingMode m mode)) := by
  by_cases hi : ∃ b, mode = .immediate b
  · obtain ⟨b, rfl⟩ := hi; exact .inl ⟨b, rfl, rfl⟩
  · have hni : ∀ b, mode ≠ .immediate b := fun b hb => hi ⟨b, hb⟩
    cases h : resolveAddress m mode x y mem with
    | ok r =>
      exact .inr (.inl ⟨r.1, r.2, rfl, by
        cases mode <;> first | exact absurd rfl (hni _) | simp only [resolveValue, h]⟩)
    | error e =>
      refine .inr (.inr ⟨hni, ?_⟩)
      rw [← resolveAddress_error h]
      cases mode <;> first | exact absurd rfl (hni _) | simp only [resolveValue, h]

theorem resolveValue_error {m : Mnemonic} {mode : AddressMode} {x y : Byte} {mem : Memory}
    {e : BlockError} (h : resolveValue m mode x y mem = .error e) :
    e = .unsupportedAddressingMode m mode := by
  obtain ⟨b, -, h'⟩ | ⟨ea, extra, -, h'⟩ | ⟨-, h'⟩ := resolveValue_cases m mode x y mem <;>
    rw [h'] at h <;> cases h
  rfl

theorem resolveValue_extra_le {m : Mnemonic} {mode : AddressMode} {x y : Byte} {mem : Memory}
    {val : Byte} {extra : Nat} (h : resolveValue m mode x y mem = .ok (val, extra)) : extra ≤ 1 := by
  obtain ⟨b, -, h'⟩ | ⟨ea, n, he, h'⟩ | ⟨-, h'⟩ := resolveValue_cases m mode x y mem <;>
    rw [h'] at h <;> cases h
  · exact Nat.zero_le 1
  · exact resolveAddress_extra_le he

theorem upgrade_eq (z : Byte) : upgrade z = BitVec.ofNat 16 z.toNat := by
  apply BitVec.eq_of_toNat_eq
  have := z.isLt
  rw [upgrade_toNat, BitVec.toNat_ofNat]; omega

theorem upgrade_zeroPageAdd (z d : Byte) :
    upgrade (zeroPageAdd z d) = BitVec.ofNat 16 ((z.toNat + d.toNat) % 256) := by
  rw [upgrade_eq]; simp [zeroPageAdd, BitVec.toNat_add]

/-- An indexed address, its sum and its extra cycle in natural numbers. -/
theorem indexed_eq (a : Addr) (d : Byte) :
    ∃ ea, indexed a d = (ea, if ea.toNat / 256 ≠ a.toNat / 256 then 1 else 0) ∧
      ea.toNat = (a.toNat + d.toNat) % 65536 := by
  refine ⟨a + d.setWidth 16, ?_, by simp [BitVec.toNat_add]⟩
  simp only [indexed, addCheckPageCross, Prod.mk.injEq, true_and, bne, ← hi_toNat]
  by_cases h : hi (a + d.setWidth 16) = hi a
  · simp [h]
  · rw [if_pos (fun he => h (BitVec.eq_of_toNat_eq he))]; simp [h]

end Sys2Proof.Machine
end

