-- ==== Sys2Proof/Laws/State.lean ====
section
/-! SUPPORT. The named updates of State, field by field. -/

namespace Sys2Proof.Machine

variable (s : State)

@[simp] theorem State.setA_a (v : Byte) : (s.setA v).a = v := rfl
@[simp] theorem State.setA_x (v : Byte) : (s.setA v).x = s.x := rfl
@[simp] theorem State.setA_y (v : Byte) : (s.setA v).y = s.y := rfl
@[simp] theorem State.setA_sp (v : Byte) : (s.setA v).sp = s.sp := rfl
@[simp] theorem State.setA_pc (v : Byte) : (s.setA v).pc = s.pc := rfl
@[simp] theorem State.setA_p (v : Byte) : (s.setA v).p = s.p := rfl
@[simp] theorem State.setA_cyc (v : Byte) : (s.setA v).cyc = s.cyc := rfl
@[simp] theorem State.setA_fault (v : Byte) : (s.setA v).fault = s.fault := rfl
@[simp] theorem State.setA_mem (v : Byte) : (s.setA v).mem = s.mem := rfl

@[simp] theorem State.setP_a (v : Byte) : (s.setP v).a = s.a := rfl
@[simp] theorem State.setP_x (v : Byte) : (s.setP v).x = s.x := rfl
@[simp] theorem State.setP_y (v : Byte) : (s.setP v).y = s.y := rfl
@[simp] theorem State.setP_sp (v : Byte) : (s.setP v).sp = s.sp := rfl
@[simp] theorem State.setP_pc (v : Byte) : (s.setP v).pc = s.pc := rfl
@[simp] theorem State.setP_p (v : Byte) : (s.setP v).p = v := rfl
@[simp] theorem State.setP_cyc (v : Byte) : (s.setP v).cyc = s.cyc := rfl
@[simp] theorem State.setP_fault (v : Byte) : (s.setP v).fault = s.fault := rfl
@[simp] theorem State.setP_mem (v : Byte) : (s.setP v).mem = s.mem := rfl

@[simp] theorem State.store_a (addr : Addr) (v : Byte) : (s.store addr v).a = s.a := rfl
@[simp] theorem State.store_x (addr : Addr) (v : Byte) : (s.store addr v).x = s.x := rfl
@[simp] theorem State.store_y (addr : Addr) (v : Byte) : (s.store addr v).y = s.y := rfl
@[simp] theorem State.store_sp (addr : Addr) (v : Byte) : (s.store addr v).sp = s.sp := rfl
@[simp] theorem State.store_pc (addr : Addr) (v : Byte) : (s.store addr v).pc = s.pc := rfl
@[simp] theorem State.store_p (addr : Addr) (v : Byte) : (s.store addr v).p = s.p := rfl
@[simp] theorem State.store_cyc (addr : Addr) (v : Byte) : (s.store addr v).cyc = s.cyc := rfl
@[simp] theorem State.store_fault (addr : Addr) (v : Byte) : (s.store addr v).fault = s.fault := rfl
@[simp] theorem State.store_mem (addr : Addr) (v : Byte) : (s.store addr v).mem = s.mem.write addr v := rfl

@[simp] theorem State.raise_a (e : BlockError) : (s.raise e).a = s.a := rfl
@[simp] theorem State.raise_x (e : BlockError) : (s.raise e).x = s.x := rfl
@[simp] theorem State.raise_y (e : BlockError) : (s.raise e).y = s.y := rfl
@[simp] theorem State.raise_sp (e : BlockError) : (s.raise e).sp = s.sp := rfl
@[simp] theorem State.raise_pc (e : BlockError) : (s.raise e).pc = s.pc := rfl
@[simp] theorem State.raise_p (e : BlockError) : (s.raise e).p = s.p := rfl
@[simp] theorem State.raise_cyc (e : BlockError) : (s.raise e).cyc = s.cyc := rfl
@[simp] theorem State.raise_fault (e : BlockError) : (s.raise e).fault = some e := rfl
@[simp] theorem State.raise_mem (e : BlockError) : (s.raise e).mem = s.mem := rfl

@[simp] theorem State.retire_a (k cycles : Nat) : (s.retire k cycles).a = s.a := rfl
@[simp] theorem State.retire_x (k cycles : Nat) : (s.retire k cycles).x = s.x := rfl
@[simp] theorem State.retire_y (k cycles : Nat) : (s.retire k cycles).y = s.y := rfl
@[simp] theorem State.retire_sp (k cycles : Nat) : (s.retire k cycles).sp = s.sp := rfl
@[simp] theorem State.retire_pc (k cycles : Nat) : (s.retire k cycles).pc = s.pc + BitVec.ofNat 16 k := rfl
@[simp] theorem State.retire_p (k cycles : Nat) : (s.retire k cycles).p = s.p := rfl
@[simp] theorem State.retire_cyc (k cycles : Nat) : (s.retire k cycles).cyc = s.cyc + BitVec.ofNat 64 cycles := rfl
@[simp] theorem State.retire_fault (k cycles : Nat) : (s.retire k cycles).fault = s.fault := rfl
@[simp] theorem State.retire_mem (k cycles : Nat) : (s.retire k cycles).mem = s.mem := rfl

@[simp] theorem State.withFetchWord_a (nbits w : Nat) : (s.withFetchWord nbits w).a = s.a := rfl
@[simp] theorem State.withFetchWord_x (nbits w : Nat) : (s.withFetchWord nbits w).x = s.x := rfl
@[simp] theorem State.withFetchWord_y (nbits w : Nat) : (s.withFetchWord nbits w).y = s.y := rfl
@[simp] theorem State.withFetchWord_sp (nbits w : Nat) : (s.withFetchWord nbits w).sp = s.sp := rfl
@[simp] theorem State.withFetchWord_pc (nbits w : Nat) : (s.withFetchWord nbits w).pc = s.pc := rfl
@[simp] theorem State.withFetchWord_p (nbits w : Nat) : (s.withFetchWord nbits w).p = s.p := rfl
@[simp] theorem State.withFetchWord_cyc (nbits w : Nat) : (s.withFetchWord nbits w).cyc = s.cyc := rfl
@[simp] theorem State.withFetchWord_fault (nbits w : Nat) : (s.withFetchWord nbits w).fault = s.fault := rfl
@[simp] theorem State.withFetchWord_mem (nbits w : Nat) : (s.withFetchWord nbits w).mem = s.mem.load s.pc (wordBytes nbits w) := rfl

end Sys2Proof.Machine
end

