-- ==== Sys2Proof/Laws/Engine.lean ====
section
/-! SUPPORT. What the engine can do, said once: when `execute` answers a next state, an error was raised or one
of the four semantic functions completed; and the meanings and `step` in its terms. -/

namespace Sys2Proof.Machine

variable {cfg : Config} {m : Mnemonic} {mode : AddressMode} {s t : State}

/-- `execute` of a running block raised an error: the mnemonic has no semantic function, or the pair has no
row or no resolvable mode. -/
def Raised (cfg : Config) (m : Mnemonic) (mode : AddressMode) (s t : State) : Prop :=
  (semanticOf cfg m = none ∧ t = s.raise (.notYetImplemented m)) ∨
  (semanticOf cfg m ≠ none ∧ t = s.raise (.unsupportedAddressingMode m mode))

/-- `execute` of a running block completed, in the six steps of 30_encoding.md R106. -/
def Completed (cfg : Config) (m : Mnemonic) (mode : AddressMode) (s t : State) : Prop :=
  ∃ k, metricsOf cfg m mode.variant = some k ∧
  ((∃ val extra, m = .ADC ∧ resolveValue .ADC mode s.x s.y s.mem = .ok (val, extra) ∧
      ¬(cfg.decimalAdc = .refuse ∧ getFlag .D s.p = true) ∧
      t = ((s.setA (adcResult s.a val (getFlag .C s.p))).setP (adcFlags s.a val s.p)).retire
            k.bytes (k.cycles + extra)) ∨
   (∃ val extra, m = .AND ∧ resolveValue .AND mode s.x s.y s.mem = .ok (val, extra) ∧
      t = (andA val s).retire k.bytes (k.cycles + extra)) ∨
   (m = .ASL ∧ mode = .implied ∧ t = (aslA cfg s).retire k.bytes k.cycles) ∨
   (∃ ea extra, m = .ASL ∧ mode ≠ .implied ∧ resolveAddress .ASL mode s.x s.y s.mem = .ok (ea, extra) ∧
      t = (aslM cfg ea s).retire k.bytes (k.cycles + extra)))

theorem execute_stopped {e : BlockError} (h : s.fault = some e) :
    execute cfg m mode s = .fault (.stopped e) := by
  simp [execute, h]

theorem semanticOf_cases (cfg : Config) (m : Mnemonic) :
    (m = .ADC ∧ semanticOf cfg m = some (.onValue (adc cfg))) ∨
    (m = .AND ∧ semanticOf cfg m = some (.onValue (fun val s => .ok (andA val s)))) ∨
    (m = .ASL ∧ semanticOf cfg m = some (.readModifyWrite (aslA cfg) (aslM cfg))) ∨
    (m ≠ .ADC ∧ m ≠ .AND ∧ m ≠ .ASL ∧ semanticOf cfg m = none) := by
  cases m <;> simp [semanticOf]

theorem execute_notYetImplemented (hf : s.fault = none) (h : semanticOf cfg m = none) :
    execute cfg m mode s = .next (s.raise (.notYetImplemented m)) := by
  simp [execute, hf, h]

theorem execute_noRow (hf : s.fault = none) (hs : semanticOf cfg m ≠ none)
    (h : metricsOf cfg m mode.variant = none) :
    execute cfg m mode s = .next (s.raise (.unsupportedAddressingMode m mode)) := by
  obtain ⟨f, hs⟩ := Option.ne_none_iff_exists'.mp hs
  simp [execute, hf, h, hs]

theorem execute_adc {k : ExecutionMetrics} {val : Byte} {extra : Nat} (hf : s.fault = none)
    (hk : metricsOf cfg .ADC mode.variant = some k)
    (hv : resolveValue .ADC mode s.x s.y s.mem = .ok (val, extra))
    (hd : ¬(cfg.decimalAdc = .refuse ∧ getFlag .D s.p = true)) :
    execute cfg .ADC mode s =
      .next (((s.setA (adcResult s.a val (getFlag .C s.p))).setP (adcFlags s.a val s.p)).retire
        k.bytes (k.cycles + extra)) := by
  simp only [execute, hf, semanticOf, hk, applySemantic, hv, adc, if_neg hd]

theorem execute_and {k : ExecutionMetrics} {val : Byte} {extra : Nat} (hf : s.fault = none)
    (hk : metricsOf cfg .AND mode.variant = some k)
    (hv : resolveValue .AND mode s.x s.y s.mem = .ok (val, extra)) :
    execute cfg .AND mode s = .next ((andA val s).retire k.bytes (k.cycles + extra)) := by
  simp only [execute, hf, semanticOf, hk, applySemantic, hv]

theorem execute_aslA {k : ExecutionMetrics} (hf : s.fault = none)
    (hk : metricsOf cfg .ASL .implied = some k) :
    execute cfg .ASL .implied s = .next ((aslA cfg s).retire k.bytes k.cycles) := by
  simp [execute, hf, semanticOf, hk, applySemantic, AddressMode.variant]

theorem execute_aslM {k : ExecutionMetrics} {ea : Addr} {extra : Nat} (hf : s.fault = none)
    (hk : metricsOf cfg .ASL mode.variant = some k) (hm : mode ≠ .implied)
    (ha : resolveAddress .ASL mode s.x s.y s.mem = .ok (ea, extra)) :
    execute cfg .ASL mode s = .next ((aslM cfg ea s).retire k.bytes (k.cycles + extra)) := by
  simp only [execute, hf, semanticOf, hk, applySemantic, ha, if_neg hm]

/-- Everything `execute` can do when it answers a next state. -/
theorem execute_next (h : execute cfg m mode s = .next t) :
    s.fault = none ∧ (Raised cfg m mode s t ∨ Completed cfg m mode s t) := by
  cases hf : s.fault with
  | some e => simp [execute_stopped hf] at h
  | none =>
    refine ⟨rfl, ?_⟩
    by_cases hne : semanticOf cfg m = none
    · rw [execute_notYetImplemented hf hne] at h
      cases h; exact .inl (.inl ⟨hne, rfl⟩)
    cases hk : metricsOf cfg m mode.variant with
    | none =>
      rw [execute_noRow hf hne hk] at h
      cases h; exact .inl (.inr ⟨hne, rfl⟩)
    | some k =>
    obtain ⟨rfl, hs⟩ | ⟨rfl, hs⟩ | ⟨rfl, hs⟩ | ⟨-, -, -, hs⟩ := semanticOf_cases cfg m
    · simp only [execute, hf, hs, hk, applySemantic, adc] at h
      split at h <;> rename_i ha
      · cases h
        split at ha <;> rename_i hv
        · cases ha
        · by_cases hd : cfg.decimalAdc = .refuse ∧ getFlag .D s.p = true
          · rw [if_pos hd] at ha; cases ha
          · rw [if_neg hd] at ha; cases ha
            exact .inr ⟨k, hk, .inl ⟨_, _, rfl, hv, hd, rfl⟩⟩
      · cases h
        split at ha <;> rename_i hv
        · cases ha; exact .inl (.inr ⟨hne, by rw [resolveValue_error hv]⟩)
        · split at ha <;> cases ha
      · cases h
    · simp only [execute, hf, hs, hk, applySemantic] at h
      split at h <;> rename_i ha
      · cases h
        split at ha <;> rename_i hv <;> cases ha
        exact .inr ⟨k, hk, .inr (.inl ⟨_, _, rfl, hv, rfl⟩)⟩
      · cases h
        split at ha <;> rename_i hv <;> cases ha
        exact .inl (.inr ⟨hne, by rw [resolveValue_error hv]⟩)
      · cases h
    · by_cases hm : mode = .implied
      · subst hm
        rw [execute_aslA hf hk] at h; cases h
        exact .inr ⟨k, hk, .inr (.inr (.inl ⟨rfl, rfl, rfl⟩))⟩
      · cases ha : resolveAddress .ASL mode s.x s.y s.mem with
        | error e =>
          simp only [execute, hf, hs, hk, applySemantic, if_neg hm, ha] at h
          cases h; exact .inl (.inr ⟨hne, by rw [resolveAddress_error ha]⟩)
        | ok r =>
          rw [execute_aslM hf hk hm ha] at h; cases h
          exact .inr ⟨k, hk, .inr (.inr (.inr ⟨_, _, rfl, hm, ha, rfl⟩))⟩
    · exact absurd hs hne

/-- Every meaning is the engine's run of its own pair with the active parameters. -/
theorem exec_eq_execute (i : Instr) (s : State) :
    exec i s = execute activeConfig i.mnemonic i.mode s := by
  cases i <;> rfl

theorem step_eq_stepWith (s : State) : step s = stepWith activeConfig s := by
  cases hf : s.fault <;> cases hi : fetch s.mem s.pc <;>
    simp [step, stepWith, hf, hi, decodeAt_active, Except.map, exec_eq_execute]

theorem stepWith_stopped {e : BlockError} (h : s.fault = some e) :
    stepWith cfg s = .fault (.stopped e) := by
  simp [stepWith, h]

/-- Everything a step can do when it answers a next state, for any parameters. -/
theorem stepWith_next (h : stepWith cfg s = .next t) :
    s.fault = none ∧
    ((decodeRow cfg (s.mem.read s.pc) = none ∧ t = s.raise (.illegalOpcode (s.mem.read s.pc))) ∨
     (∃ m mode, decodeAt cfg s.mem s.pc s.cyc = .ok (m, mode) ∧
        (Raised cfg m mode s t ∨ Completed cfg m mode s t))) := by
  cases hf : s.fault with
  | some e => simp [stepWith_stopped hf] at h
  | none =>
    refine ⟨rfl, ?_⟩
    cases hi : decodeAt cfg s.mem s.pc s.cyc with
    | error e =>
      obtain ⟨hn, rfl⟩ := decodeAt_error hi
      simp only [stepWith, hf, hi] at h
      cases h; exact .inl ⟨hn, rfl⟩
    | ok r =>
      simp only [stepWith, hf, hi] at h
      exact .inr ⟨r.1, r.2, rfl, (execute_next h).2⟩

/-- Everything a step can do when it answers a next state. -/
theorem step_next (h : step s = .next t) :
    s.fault = none ∧
    ((fetch s.mem s.pc = .error (.illegalOpcode (s.mem.read s.pc)) ∧
        t = s.raise (.illegalOpcode (s.mem.read s.pc))) ∨
     (∃ i, fetch s.mem s.pc = .ok i ∧
        (Raised activeConfig i.mnemonic i.mode s t ∨ Completed activeConfig i.mnemonic i.mode s t))) := by
  cases hf : s.fault with
  | some e => simp [step, hf] at h
  | none =>
    refine ⟨rfl, ?_⟩
    cases hi : fetch s.mem s.pc with
    | error e =>
      obtain ⟨-, rfl⟩ := fetch_error hi
      simp only [step, hf, hi] at h
      cases h; exact .inl ⟨rfl, rfl⟩
    | ok i =>
      simp only [step, hf, hi, exec_eq_execute] at h
      exact .inr ⟨i, rfl, (execute_next h).2⟩

/-! What a completed instruction leaves unchanged, whichever it is. -/

theorem Completed.fault (h : Completed cfg m mode s t) : t.fault = s.fault := by
  obtain ⟨k, -, ⟨_, _, -, -, -, rfl⟩ | ⟨_, _, -, -, rfl⟩ | ⟨-, -, rfl⟩ | ⟨_, _, -, -, -, rfl⟩⟩ := h <;> rfl

theorem Completed.registers (h : Completed cfg m mode s t) : t.x = s.x ∧ t.y = s.y ∧ t.sp = s.sp := by
  obtain ⟨k, -, ⟨_, _, -, -, -, rfl⟩ | ⟨_, _, -, -, rfl⟩ | ⟨-, -, rfl⟩ | ⟨_, _, -, -, -, rfl⟩⟩ := h <;>
    exact ⟨rfl, rfl, rfl⟩

end Sys2Proof.Machine
end

