-- ==== Sys2Proof/Laws/Accesses.lean ====
section
/-! SUPPORT. The laws of access lists: only a write changes a byte, and the resolver depends on memory only through
its pointer reads. -/

namespace Sys2Proof.Machine

open Sys2Proof.Safety

theorem byteAfter_append (addr : Addr) (l l' : List Access) (v : Byte) :
    byteAfter addr (l ++ l') v = byteAfter addr l' (byteAfter addr l v) := by
  induction l generalizing v with
  | nil => rfl
  | cons c l ih => cases c <;> exact ih _

theorem byteAfter_fetchAccesses (addr : Addr) (cfg : Config) (mem : Memory) (pc : Addr) (v : Byte) :
    byteAfter addr (fetchAccesses cfg mem pc) v = v := by
  unfold fetchAccesses
  split
  · rfl
  · split <;> split <;> rfl

/-- Memories that agree on the decoder's reads decode alike, with the same reads. -/
theorem decodeAt_of_agree {cfg : Config} {mem mem' : Memory} {pc : Addr}
    (h : AgreeOnReads (fetchAccesses cfg mem pc) mem mem') (cyc : Cycles) :
    fetchAccesses cfg mem' pc = fetchAccesses cfg mem pc ∧
      decodeAt cfg mem' pc cyc = decodeAt cfg mem pc cyc := by
  have h0 : mem'.read pc = mem.read pc := h pc (by unfold fetchAccesses; split <;> simp)
  refine ⟨by simp only [fetchAccesses, h0], ?_⟩
  simp only [decodeAt, h0]
  cases hr : decodeRow cfg (mem.read pc) with
  | none => rfl
  | some r =>
    simp only [AgreeOnReads, fetchAccesses, hr] at h
    have h1 (u : Byte) : (if 2 ≤ r.bytes then mem'.read (pc + 1) else u) =
        if 2 ≤ r.bytes then mem.read (pc + 1) else u :=
      ite_congr rfl (fun hl => h _ (by simp [hl])) fun _ => rfl
    have h2 (u : Byte) : (if r.bytes = 3 then mem'.read (pc + 2) else u) =
        if r.bytes = 3 then mem.read (pc + 2) else u :=
      ite_congr rfl (fun hl => h _ (by simp [hl])) fun _ => rfl
    simp only [h1, h2]

theorem byteAfter_pointerAccesses (addr : Addr) (mode : AddressMode) (x v : Byte) :
    byteAfter addr (pointerAccesses mode x) v = v := by
  unfold pointerAccesses; split <;> rfl

/-- Memories that agree on the pointer bytes resolve alike. -/
theorem resolveAddress_of_agree {m : Mnemonic} {mode : AddressMode} {x y : Byte} {mem mem' : Memory}
    (h : AgreeOnReads (pointerAccesses mode x) mem mem') :
    resolveAddress m mode x y mem' = resolveAddress m mode x y mem := by
  cases mode <;> try rfl
  all_goals
    simp only [AgreeOnReads, pointerAccesses, pointerAddr, List.mem_cons, Access.read.injEq, List.not_mem_nil,
      or_false] at h
    simp [resolveAddress, Memory.read16, h]

end Sys2Proof.Machine
end

