-- ==== Sys2Proof/Laws/PerInstr.lean ====
section
/-! SUPPORT. Statements about every instruction as syntax, one lemma per constructor. MapRow: the cell of the
opcode map (30_encoding.md R99) at the instruction's opcode builds that instruction from its own operand, has
the length of the instruction's mode (R94), and the pair is one the rules' Encoding lines list. -/

namespace Sys2Proof.Laws

/-- The instruction a format builds from the operand of a mode; none where the operand does not fit it. -/
def builtFrom : Format → AddressMode → Option Instr
  | .f1 i, .implied => some i
  | .f2 build, .immediate b => some (build b)
  | .f2 build, .zeroPage z => some (build z)
  | .f2 build, .zeroPageX z => some (build z)
  | .f2 build, .zeroPageY z => some (build z)
  | .f2 build, .preIndexedIndirectX z => some (build z)
  | .f2 build, .postIndexedIndirectY z => some (build z)
  | .f2 build, .relative r => some (build r)
  | .f3 build, .absolute a => some (build a)
  | .f3 build, .absoluteX a => some (build a)
  | .f3 build, .absoluteY a => some (build a)
  | .f3 build, .indirect a => some (build a)
  | _, _ => none

/-- What the MapRow lemmas say of one instruction. -/
def MapRow.Statement (i : Instr) : Prop :=
  ∃ f, opcodeFormat i.opcode = some f ∧ builtFrom f i.mode = some i ∧
    f.length = i.mode.variant.length ∧ i.wf = true

theorem MapRow.adcImmediate (b : Byte) : MapRow.Statement (.adcImmediate b) :=
  ⟨.f2 .adcImmediate, (rfl : opcodeFormat 0x69 = some (.f2 .adcImmediate)), rfl, rfl, rfl⟩
theorem MapRow.adcZeroPage (z : Byte) : MapRow.Statement (.adcZeroPage z) :=
  ⟨.f2 .adcZeroPage, (rfl : opcodeFormat 0x65 = some (.f2 .adcZeroPage)), rfl, rfl, rfl⟩
theorem MapRow.adcZeroPageX (z : Byte) : MapRow.Statement (.adcZeroPageX z) :=
  ⟨.f2 .adcZeroPageX, (rfl : opcodeFormat 0x75 = some (.f2 .adcZeroPageX)), rfl, rfl, rfl⟩
theorem MapRow.adcAbsolute (a : Addr) : MapRow.Statement (.adcAbsolute a) :=
  ⟨.f3 .adcAbsolute, (rfl : opcodeFormat 0x6D = some (.f3 .adcAbsolute)), rfl, rfl, rfl⟩
theorem MapRow.adcAbsoluteX (a : Addr) : MapRow.Statement (.adcAbsoluteX a) :=
  ⟨.f3 .adcAbsoluteX, (rfl : opcodeFormat 0x7D = some (.f3 .adcAbsoluteX)), rfl, rfl, rfl⟩
theorem MapRow.adcAbsoluteY (a : Addr) : MapRow.Statement (.adcAbsoluteY a) :=
  ⟨.f3 .adcAbsoluteY, (rfl : opcodeFormat 0x79 = some (.f3 .adcAbsoluteY)), rfl, rfl, rfl⟩
theorem MapRow.adcPreIndexedIndirectX (z : Byte) : MapRow.Statement (.adcPreIndexedIndirectX z) :=
  ⟨.f2 .adcPreIndexedIndirectX, (rfl : opcodeFormat 0x61 = some (.f2 .adcPreIndexedIndirectX)), rfl, rfl, rfl⟩
theorem MapRow.adcPostIndexedIndirectY (z : Byte) : MapRow.Statement (.adcPostIndexedIndirectY z) :=
  ⟨.f2 .adcPostIndexedIndirectY, (rfl : opcodeFormat 0x71 = some (.f2 .adcPostIndexedIndirectY)), rfl, rfl, rfl⟩
theorem MapRow.andImmediate (b : Byte) : MapRow.Statement (.andImmediate b) :=
  ⟨.f2 .andImmediate, (rfl : opcodeFormat 0x29 = some (.f2 .andImmediate)), rfl, rfl, rfl⟩
theorem MapRow.andZeroPage (z : Byte) : MapRow.Statement (.andZeroPage z) :=
  ⟨.f2 .andZeroPage, (rfl : opcodeFormat 0x25 = some (.f2 .andZeroPage)), rfl, rfl, rfl⟩
theorem MapRow.andZeroPageX (z : Byte) : MapRow.Statement (.andZeroPageX z) :=
  ⟨.f2 .andZeroPageX, (rfl : opcodeFormat 0x35 = some (.f2 .andZeroPageX)), rfl, rfl, rfl⟩
theorem MapRow.andAbsolute (a : Addr) : MapRow.Statement (.andAbsolute a) :=
  ⟨.f3 .andAbsolute, (rfl : opcodeFormat 0x2D = some (.f3 .andAbsolute)), rfl, rfl, rfl⟩
theorem MapRow.andAbsoluteX (a : Addr) : MapRow.Statement (.andAbsoluteX a) :=
  ⟨.f3 .andAbsoluteX, (rfl : opcodeFormat 0x3D = some (.f3 .andAbsoluteX)), rfl, rfl, rfl⟩
theorem MapRow.andAbsoluteY (a : Addr) : MapRow.Statement (.andAbsoluteY a) :=
  ⟨.f3 .andAbsoluteY, (rfl : opcodeFormat 0x39 = some (.f3 .andAbsoluteY)), rfl, rfl, rfl⟩
theorem MapRow.andPreIndexedIndirectX (z : Byte) : MapRow.Statement (.andPreIndexedIndirectX z) :=
  ⟨.f2 .andPreIndexedIndirectX, (rfl : opcodeFormat 0x21 = some (.f2 .andPreIndexedIndirectX)), rfl, rfl, rfl⟩
theorem MapRow.andPostIndexedIndirectY (z : Byte) : MapRow.Statement (.andPostIndexedIndirectY z) :=
  ⟨.f2 .andPostIndexedIndirectY, (rfl : opcodeFormat 0x31 = some (.f2 .andPostIndexedIndirectY)), rfl, rfl, rfl⟩
theorem MapRow.aslZeroPage (z : Byte) : MapRow.Statement (.aslZeroPage z) :=
  ⟨.f2 .aslZeroPage, (rfl : opcodeFormat 0x06 = some (.f2 .aslZeroPage)), rfl, rfl, rfl⟩
theorem MapRow.aslZeroPageX (z : Byte) : MapRow.Statement (.aslZeroPageX z) :=
  ⟨.f2 .aslZeroPageX, (rfl : opcodeFormat 0x16 = some (.f2 .aslZeroPageX)), rfl, rfl, rfl⟩
theorem MapRow.aslAbsolute (a : Addr) : MapRow.Statement (.aslAbsolute a) :=
  ⟨.f3 .aslAbsolute, (rfl : opcodeFormat 0x0E = some (.f3 .aslAbsolute)), rfl, rfl, rfl⟩
theorem MapRow.aslAbsoluteX (a : Addr) : MapRow.Statement (.aslAbsoluteX a) :=
  ⟨.f3 .aslAbsoluteX, (rfl : opcodeFormat 0x1E = some (.f3 .aslAbsoluteX)), rfl, rfl, rfl⟩
theorem MapRow.aslImplied : MapRow.Statement .aslImplied :=
  ⟨.f1 .aslImplied, (rfl : opcodeFormat 0x0A = some (.f1 .aslImplied)), rfl, rfl, rfl⟩
theorem MapRow.bccRelative (r : Byte) : MapRow.Statement (.bccRelative r) :=
  ⟨.f2 .bccRelative, (rfl : opcodeFormat 0x90 = some (.f2 .bccRelative)), rfl, rfl, rfl⟩
theorem MapRow.bcsRelative (r : Byte) : MapRow.Statement (.bcsRelative r) :=
  ⟨.f2 .bcsRelative, (rfl : opcodeFormat 0xB0 = some (.f2 .bcsRelative)), rfl, rfl, rfl⟩
theorem MapRow.beqRelative (r : Byte) : MapRow.Statement (.beqRelative r) :=
  ⟨.f2 .beqRelative, (rfl : opcodeFormat 0xF0 = some (.f2 .beqRelative)), rfl, rfl, rfl⟩
theorem MapRow.bitZeroPage (z : Byte) : MapRow.Statement (.bitZeroPage z) :=
  ⟨.f2 .bitZeroPage, (rfl : opcodeFormat 0x24 = some (.f2 .bitZeroPage)), rfl, rfl, rfl⟩
theorem MapRow.bitAbsolute (a : Addr) : MapRow.Statement (.bitAbsolute a) :=
  ⟨.f3 .bitAbsolute, (rfl : opcodeFormat 0x2C = some (.f3 .bitAbsolute)), rfl, rfl, rfl⟩
theorem MapRow.bmiRelative (r : Byte) : MapRow.Statement (.bmiRelative r) :=
  ⟨.f2 .bmiRelative, (rfl : opcodeFormat 0x30 = some (.f2 .bmiRelative)), rfl, rfl, rfl⟩
theorem MapRow.bneRelative (r : Byte) : MapRow.Statement (.bneRelative r) :=
  ⟨.f2 .bneRelative, (rfl : opcodeFormat 0xD0 = some (.f2 .bneRelative)), rfl, rfl, rfl⟩
theorem MapRow.bplRelative (r : Byte) : MapRow.Statement (.bplRelative r) :=
  ⟨.f2 .bplRelative, (rfl : opcodeFormat 0x10 = some (.f2 .bplRelative)), rfl, rfl, rfl⟩
theorem MapRow.brkImplied : MapRow.Statement .brkImplied :=
  ⟨.f1 .brkImplied, (rfl : opcodeFormat 0x00 = some (.f1 .brkImplied)), rfl, rfl, rfl⟩
theorem MapRow.bvcRelative (r : Byte) : MapRow.Statement (.bvcRelative r) :=
  ⟨.f2 .bvcRelative, (rfl : opcodeFormat 0x50 = some (.f2 .bvcRelative)), rfl, rfl, rfl⟩
theorem MapRow.bvsRelative (r : Byte) : MapRow.Statement (.bvsRelative r) :=
  ⟨.f2 .bvsRelative, (rfl : opcodeFormat 0x70 = some (.f2 .bvsRelative)), rfl, rfl, rfl⟩
theorem MapRow.clcImplied : MapRow.Statement .clcImplied :=
  ⟨.f1 .clcImplied, (rfl : opcodeFormat 0x18 = some (.f1 .clcImplied)), rfl, rfl, rfl⟩
theorem MapRow.cldImplied : MapRow.Statement .cldImplied :=
  ⟨.f1 .cldImplied, (rfl : opcodeFormat 0xD8 = some (.f1 .cldImplied)), rfl, rfl, rfl⟩
theorem MapRow.cliImplied : MapRow.Statement .cliImplied :=
  ⟨.f1 .cliImplied, (rfl : opcodeFormat 0x58 = some (.f1 .cliImplied)), rfl, rfl, rfl⟩
theorem MapRow.clvImplied : MapRow.Statement .clvImplied :=
  ⟨.f1 .clvImplied, (rfl : opcodeFormat 0xB8 = some (.f1 .clvImplied)), rfl, rfl, rfl⟩
theorem MapRow.cmpImmediate (b : Byte) : MapRow.Statement (.cmpImmediate b) :=
  ⟨.f2 .cmpImmediate, (rfl : opcodeFormat 0xC9 = some (.f2 .cmpImmediate)), rfl, rfl, rfl⟩
theorem MapRow.cmpZeroPage (z : Byte) : MapRow.Statement (.cmpZeroPage z) :=
  ⟨.f2 .cmpZeroPage, (rfl : opcodeFormat 0xC5 = some (.f2 .cmpZeroPage)), rfl, rfl, rfl⟩
theorem MapRow.cmpZeroPageX (z : Byte) : MapRow.Statement (.cmpZeroPageX z) :=
  ⟨.f2 .cmpZeroPageX, (rfl : opcodeFormat 0xD5 = some (.f2 .cmpZeroPageX)), rfl, rfl, rfl⟩
theorem MapRow.cmpAbsolute (a : Addr) : MapRow.Statement (.cmpAbsolute a) :=
  ⟨.f3 .cmpAbsolute, (rfl : opcodeFormat 0xCD = some (.f3 .cmpAbsolute)), rfl, rfl, rfl⟩
theorem MapRow.cmpAbsoluteX (a : Addr) : MapRow.Statement (.cmpAbsoluteX a) :=
  ⟨.f3 .cmpAbsoluteX, (rfl : opcodeFormat 0xDD = some (.f3 .cmpAbsoluteX)), rfl, rfl, rfl⟩
theorem MapRow.cmpAbsoluteY (a : Addr) : MapRow.Statement (.cmpAbsoluteY a) :=
  ⟨.f3 .cmpAbsoluteY, (rfl : opcodeFormat 0xD9 = some (.f3 .cmpAbsoluteY)), rfl, rfl, rfl⟩
theorem MapRow.cmpPreIndexedIndirectX (z : Byte) : MapRow.Statement (.cmpPreIndexedIndirectX z) :=
  ⟨.f2 .cmpPreIndexedIndirectX, (rfl : opcodeFormat 0xC1 = some (.f2 .cmpPreIndexedIndirectX)), rfl, rfl, rfl⟩
theorem MapRow.cmpPostIndexedIndirectY (z : Byte) : MapRow.Statement (.cmpPostIndexedIndirectY z) :=
  ⟨.f2 .cmpPostIndexedIndirectY, (rfl : opcodeFormat 0xD1 = some (.f2 .cmpPostIndexedIndirectY)), rfl, rfl, rfl⟩
theorem MapRow.cpxImmediate (b : Byte) : MapRow.Statement (.cpxImmediate b) :=
  ⟨.f2 .cpxImmediate, (rfl : opcodeFormat 0xE0 = some (.f2 .cpxImmediate)), rfl, rfl, rfl⟩
theorem MapRow.cpxZeroPage (z : Byte) : MapRow.Statement (.cpxZeroPage z) :=
  ⟨.f2 .cpxZeroPage, (rfl : opcodeFormat 0xE4 = some (.f2 .cpxZeroPage)), rfl, rfl, rfl⟩
theorem MapRow.cpxAbsolute (a : Addr) : MapRow.Statement (.cpxAbsolute a) :=
  ⟨.f3 .cpxAbsolute, (rfl : opcodeFormat 0xEC = some (.f3 .cpxAbsolute)), rfl, rfl, rfl⟩
theorem MapRow.cpyImmediate (b : Byte) : MapRow.Statement (.cpyImmediate b) :=
  ⟨.f2 .cpyImmediate, (rfl : opcodeFormat 0xC0 = some (.f2 .cpyImmediate)), rfl, rfl, rfl⟩
theorem MapRow.cpyZeroPage (z : Byte) : MapRow.Statement (.cpyZeroPage z) :=
  ⟨.f2 .cpyZeroPage, (rfl : opcodeFormat 0xC4 = some (.f2 .cpyZeroPage)), rfl, rfl, rfl⟩
theorem MapRow.cpyAbsolute (a : Addr) : MapRow.Statement (.cpyAbsolute a) :=
  ⟨.f3 .cpyAbsolute, (rfl : opcodeFormat 0xCC = some (.f3 .cpyAbsolute)), rfl, rfl, rfl⟩
theorem MapRow.decZeroPage (z : Byte) : MapRow.Statement (.decZeroPage z) :=
  ⟨.f2 .decZeroPage, (rfl : opcodeFormat 0xC6 = some (.f2 .decZeroPage)), rfl, rfl, rfl⟩
theorem MapRow.decZeroPageX (z : Byte) : MapRow.Statement (.decZeroPageX z) :=
  ⟨.f2 .decZeroPageX, (rfl : opcodeFormat 0xD6 = some (.f2 .decZeroPageX)), rfl, rfl, rfl⟩
theorem MapRow.decAbsolute (a : Addr) : MapRow.Statement (.decAbsolute a) :=
  ⟨.f3 .decAbsolute, (rfl : opcodeFormat 0xCE = some (.f3 .decAbsolute)), rfl, rfl, rfl⟩
theorem MapRow.decAbsoluteX (a : Addr) : MapRow.Statement (.decAbsoluteX a) :=
  ⟨.f3 .decAbsoluteX, (rfl : opcodeFormat 0xDE = some (.f3 .decAbsoluteX)), rfl, rfl, rfl⟩
theorem MapRow.dexImplied : MapRow.Statement .dexImplied :=
  ⟨.f1 .dexImplied, (rfl : opcodeFormat 0xCA = some (.f1 .dexImplied)), rfl, rfl, rfl⟩
theorem MapRow.deyImplied : MapRow.Statement .deyImplied :=
  ⟨.f1 .deyImplied, (rfl : opcodeFormat 0x88 = some (.f1 .deyImplied)), rfl, rfl, rfl⟩
theorem MapRow.eorImmediate (b : Byte) : MapRow.Statement (.eorImmediate b) :=
  ⟨.f2 .eorImmediate, (rfl : opcodeFormat 0x49 = some (.f2 .eorImmediate)), rfl, rfl, rfl⟩
theorem MapRow.eorZeroPage (z : Byte) : MapRow.Statement (.eorZeroPage z) :=
  ⟨.f2 .eorZeroPage, (rfl : opcodeFormat 0x45 = some (.f2 .eorZeroPage)), rfl, rfl, rfl⟩
theorem MapRow.eorZeroPageX (z : Byte) : MapRow.Statement (.eorZeroPageX z) :=
  ⟨.f2 .eorZeroPageX, (rfl : opcodeFormat 0x55 = some (.f2 .eorZeroPageX)), rfl, rfl, rfl⟩
theorem MapRow.eorAbsolute (a : Addr) : MapRow.Statement (.eorAbsolute a) :=
  ⟨.f3 .eorAbsolute, (rfl : opcodeFormat 0x4D = some (.f3 .eorAbsolute)), rfl, rfl, rfl⟩
theorem MapRow.eorAbsoluteX (a : Addr) : MapRow.Statement (.eorAbsoluteX a) :=
  ⟨.f3 .eorAbsoluteX, (rfl : opcodeFormat 0x5D = some (.f3 .eorAbsoluteX)), rfl, rfl, rfl⟩
theorem MapRow.eorAbsoluteY (a : Addr) : MapRow.Statement (.eorAbsoluteY a) :=
  ⟨.f3 .eorAbsoluteY, (rfl : opcodeFormat 0x59 = some (.f3 .eorAbsoluteY)), rfl, rfl, rfl⟩
theorem MapRow.eorPreIndexedIndirectX (z : Byte) : MapRow.Statement (.eorPreIndexedIndirectX z) :=
  ⟨.f2 .eorPreIndexedIndirectX, (rfl : opcodeFormat 0x41 = some (.f2 .eorPreIndexedIndirectX)), rfl, rfl, rfl⟩
theorem MapRow.eorPostIndexedIndirectY (z : Byte) : MapRow.Statement (.eorPostIndexedIndirectY z) :=
  ⟨.f2 .eorPostIndexedIndirectY, (rfl : opcodeFormat 0x51 = some (.f2 .eorPostIndexedIndirectY)), rfl, rfl, rfl⟩
theorem MapRow.incZeroPage (z : Byte) : MapRow.Statement (.incZeroPage z) :=
  ⟨.f2 .incZeroPage, (rfl : opcodeFormat 0xE6 = some (.f2 .incZeroPage)), rfl, rfl, rfl⟩
theorem MapRow.incZeroPageX (z : Byte) : MapRow.Statement (.incZeroPageX z) :=
  ⟨.f2 .incZeroPageX, (rfl : opcodeFormat 0xF6 = some (.f2 .incZeroPageX)), rfl, rfl, rfl⟩
theorem MapRow.incAbsolute (a : Addr) : MapRow.Statement (.incAbsolute a) :=
  ⟨.f3 .incAbsolute, (rfl : opcodeFormat 0xEE = some (.f3 .incAbsolute)), rfl, rfl, rfl⟩
theorem MapRow.incAbsoluteX (a : Addr) : MapRow.Statement (.incAbsoluteX a) :=
  ⟨.f3 .incAbsoluteX, (rfl : opcodeFormat 0xFE = some (.f3 .incAbsoluteX)), rfl, rfl, rfl⟩
theorem MapRow.inxImplied : MapRow.Statement .inxImplied :=
  ⟨.f1 .inxImplied, (rfl : opcodeFormat 0xE8 = some (.f1 .inxImplied)), rfl, rfl, rfl⟩
theorem MapRow.inyImplied : MapRow.Statement .inyImplied :=
  ⟨.f1 .inyImplied, (rfl : opcodeFormat 0xC8 = some (.f1 .inyImplied)), rfl, rfl, rfl⟩
theorem MapRow.jmpAbsolute (a : Addr) : MapRow.Statement (.jmpAbsolute a) :=
  ⟨.f3 .jmpAbsolute, (rfl : opcodeFormat 0x4C = some (.f3 .jmpAbsolute)), rfl, rfl, rfl⟩
theorem MapRow.jmpIndirect (a : Addr) : MapRow.Statement (.jmpIndirect a) :=
  ⟨.f3 .jmpIndirect, (rfl : opcodeFormat 0x6C = some (.f3 .jmpIndirect)), rfl, rfl, rfl⟩
theorem MapRow.jsrAbsolute (a : Addr) : MapRow.Statement (.jsrAbsolute a) :=
  ⟨.f3 .jsrAbsolute, (rfl : opcodeFormat 0x20 = some (.f3 .jsrAbsolute)), rfl, rfl, rfl⟩
theorem MapRow.ldaImmediate (b : Byte) : MapRow.Statement (.ldaImmediate b) :=
  ⟨.f2 .ldaImmediate, (rfl : opcodeFormat 0xA9 = some (.f2 .ldaImmediate)), rfl, rfl, rfl⟩
theorem MapRow.ldaZeroPage (z : Byte) : MapRow.Statement (.ldaZeroPage z) :=
  ⟨.f2 .ldaZeroPage, (rfl : opcodeFormat 0xA5 = some (.f2 .ldaZeroPage)), rfl, rfl, rfl⟩
theorem MapRow.ldaZeroPageX (z : Byte) : MapRow.Statement (.ldaZeroPageX z) :=
  ⟨.f2 .ldaZeroPageX, (rfl : opcodeFormat 0xB5 = some (.f2 .ldaZeroPageX)), rfl, rfl, rfl⟩
theorem MapRow.ldaAbsolute (a : Addr) : MapRow.Statement (.ldaAbsolute a) :=
  ⟨.f3 .ldaAbsolute, (rfl : opcodeFormat 0xAD = some (.f3 .ldaAbsolute)), rfl, rfl, rfl⟩
theorem MapRow.ldaAbsoluteX (a : Addr) : MapRow.Statement (.ldaAbsoluteX a) :=
  ⟨.f3 .ldaAbsoluteX, (rfl : opcodeFormat 0xBD = some (.f3 .ldaAbsoluteX)), rfl, rfl, rfl⟩
theorem MapRow.ldaAbsoluteY (a : Addr) : MapRow.Statement (.ldaAbsoluteY a) :=
  ⟨.f3 .ldaAbsoluteY, (rfl : opcodeFormat 0xB9 = some (.f3 .ldaAbsoluteY)), rfl, rfl, rfl⟩
theorem MapRow.ldaPreIndexedIndirectX (z : Byte) : MapRow.Statement (.ldaPreIndexedIndirectX z) :=
  ⟨.f2 .ldaPreIndexedIndirectX, (rfl : opcodeFormat 0xA1 = some (.f2 .ldaPreIndexedIndirectX)), rfl, rfl, rfl⟩
theorem MapRow.ldaPostIndexedIndirectY (z : Byte) : MapRow.Statement (.ldaPostIndexedIndirectY z) :=
  ⟨.f2 .ldaPostIndexedIndirectY, (rfl : opcodeFormat 0xB1 = some (.f2 .ldaPostIndexedIndirectY)), rfl, rfl, rfl⟩
theorem MapRow.ldxImmediate (b : Byte) : MapRow.Statement (.ldxImmediate b) :=
  ⟨.f2 .ldxImmediate, (rfl : opcodeFormat 0xA2 = some (.f2 .ldxImmediate)), rfl, rfl, rfl⟩
theorem MapRow.ldxZeroPage (z : Byte) : MapRow.Statement (.ldxZeroPage z) :=
  ⟨.f2 .ldxZeroPage, (rfl : opcodeFormat 0xA6 = some (.f2 .ldxZeroPage)), rfl, rfl, rfl⟩
theorem MapRow.ldxZeroPageY (z : Byte) : MapRow.Statement (.ldxZeroPageY z) :=
  ⟨.f2 .ldxZeroPageY, (rfl : opcodeFormat 0xB6 = some (.f2 .ldxZeroPageY)), rfl, rfl, rfl⟩
theorem MapRow.ldxAbsolute (a : Addr) : MapRow.Statement (.ldxAbsolute a) :=
  ⟨.f3 .ldxAbsolute, (rfl : opcodeFormat 0xAE = some (.f3 .ldxAbsolute)), rfl, rfl, rfl⟩
theorem MapRow.ldxAbsoluteY (a : Addr) : MapRow.Statement (.ldxAbsoluteY a) :=
  ⟨.f3 .ldxAbsoluteY, (rfl : opcodeFormat 0xBE = some (.f3 .ldxAbsoluteY)), rfl, rfl, rfl⟩
theorem MapRow.ldyImmediate (b : Byte) : MapRow.Statement (.ldyImmediate b) :=
  ⟨.f2 .ldyImmediate, (rfl : opcodeFormat 0xA0 = some (.f2 .ldyImmediate)), rfl, rfl, rfl⟩
theorem MapRow.ldyZeroPage (z : Byte) : MapRow.Statement (.ldyZeroPage z) :=
  ⟨.f2 .ldyZeroPage, (rfl : opcodeFormat 0xA4 = some (.f2 .ldyZeroPage)), rfl, rfl, rfl⟩
theorem MapRow.ldyZeroPageX (z : Byte) : MapRow.Statement (.ldyZeroPageX z) :=
  ⟨.f2 .ldyZeroPageX, (rfl : opcodeFormat 0xB4 = some (.f2 .ldyZeroPageX)), rfl, rfl, rfl⟩
theorem MapRow.ldyAbsolute (a : Addr) : MapRow.Statement (.ldyAbsolute a) :=
  ⟨.f3 .ldyAbsolute, (rfl : opcodeFormat 0xAC = some (.f3 .ldyAbsolute)), rfl, rfl, rfl⟩
theorem MapRow.ldyAbsoluteX (a : Addr) : MapRow.Statement (.ldyAbsoluteX a) :=
  ⟨.f3 .ldyAbsoluteX, (rfl : opcodeFormat 0xBC = some (.f3 .ldyAbsoluteX)), rfl, rfl, rfl⟩
theorem MapRow.lsrZeroPage (z : Byte) : MapRow.Statement (.lsrZeroPage z) :=
  ⟨.f2 .lsrZeroPage, (rfl : opcodeFormat 0x46 = some (.f2 .lsrZeroPage)), rfl, rfl, rfl⟩
theorem MapRow.lsrZeroPageX (z : Byte) : MapRow.Statement (.lsrZeroPageX z) :=
  ⟨.f2 .lsrZeroPageX, (rfl : opcodeFormat 0x56 = some (.f2 .lsrZeroPageX)), rfl, rfl, rfl⟩
theorem MapRow.lsrAbsolute (a : Addr) : MapRow.Statement (.lsrAbsolute a) :=
  ⟨.f3 .lsrAbsolute, (rfl : opcodeFormat 0x4E = some (.f3 .lsrAbsolute)), rfl, rfl, rfl⟩
theorem MapRow.lsrAbsoluteX (a : Addr) : MapRow.Statement (.lsrAbsoluteX a) :=
  ⟨.f3 .lsrAbsoluteX, (rfl : opcodeFormat 0x5E = some (.f3 .lsrAbsoluteX)), rfl, rfl, rfl⟩
theorem MapRow.lsrImplied : MapRow.Statement .lsrImplied :=
  ⟨.f1 .lsrImplied, (rfl : opcodeFormat 0x4A = some (.f1 .lsrImplied)), rfl, rfl, rfl⟩
theorem MapRow.nopImplied : MapRow.Statement .nopImplied :=
  ⟨.f1 .nopImplied, (rfl : opcodeFormat 0xEA = some (.f1 .nopImplied)), rfl, rfl, rfl⟩
theorem MapRow.oraImmediate (b : Byte) : MapRow.Statement (.oraImmediate b) :=
  ⟨.f2 .oraImmediate, (rfl : opcodeFormat 0x09 = some (.f2 .oraImmediate)), rfl, rfl, rfl⟩
theorem MapRow.oraZeroPage (z : Byte) : MapRow.Statement (.oraZeroPage z) :=
  ⟨.f2 .oraZeroPage, (rfl : opcodeFormat 0x05 = some (.f2 .oraZeroPage)), rfl, rfl, rfl⟩
theorem MapRow.oraZeroPageX (z : Byte) : MapRow.Statement (.oraZeroPageX z) :=
  ⟨.f2 .oraZeroPageX, (rfl : opcodeFormat 0x15 = some (.f2 .oraZeroPageX)), rfl, rfl, rfl⟩
theorem MapRow.oraAbsolute (a : Addr) : MapRow.Statement (.oraAbsolute a) :=
  ⟨.f3 .oraAbsolute, (rfl : opcodeFormat 0x0D = some (.f3 .oraAbsolute)), rfl, rfl, rfl⟩
theorem MapRow.oraAbsoluteX (a : Addr) : MapRow.Statement (.oraAbsoluteX a) :=
  ⟨.f3 .oraAbsoluteX, (rfl : opcodeFormat 0x1D = some (.f3 .oraAbsoluteX)), rfl, rfl, rfl⟩
theorem MapRow.oraAbsoluteY (a : Addr) : MapRow.Statement (.oraAbsoluteY a) :=
  ⟨.f3 .oraAbsoluteY, (rfl : opcodeFormat 0x19 = some (.f3 .oraAbsoluteY)), rfl, rfl, rfl⟩
theorem MapRow.oraPreIndexedIndirectX (z : Byte) : MapRow.Statement (.oraPreIndexedIndirectX z) :=
  ⟨.f2 .oraPreIndexedIndirectX, (rfl : opcodeFormat 0x01 = some (.f2 .oraPreIndexedIndirectX)), rfl, rfl, rfl⟩
theorem MapRow.oraPostIndexedIndirectY (z : Byte) : MapRow.Statement (.oraPostIndexedIndirectY z) :=
  ⟨.f2 .oraPostIndexedIndirectY, (rfl : opcodeFormat 0x11 = some (.f2 .oraPostIndexedIndirectY)), rfl, rfl, rfl⟩
theorem MapRow.phaImplied : MapRow.Statement .phaImplied :=
  ⟨.f1 .phaImplied, (rfl : opcodeFormat 0x48 = some (.f1 .phaImplied)), rfl, rfl, rfl⟩
theorem MapRow.phpImplied : MapRow.Statement .phpImplied :=
  ⟨.f1 .phpImplied, (rfl : opcodeFormat 0x08 = some (.f1 .phpImplied)), rfl, rfl, rfl⟩
theorem MapRow.plaImplied : MapRow.Statement .plaImplied :=
  ⟨.f1 .plaImplied, (rfl : opcodeFormat 0x68 = some (.f1 .plaImplied)), rfl, rfl, rfl⟩
theorem MapRow.plpImplied : MapRow.Statement .plpImplied :=
  ⟨.f1 .plpImplied, (rfl : opcodeFormat 0x28 = some (.f1 .plpImplied)), rfl, rfl, rfl⟩
theorem MapRow.rolZeroPage (z : Byte) : MapRow.Statement (.rolZeroPage z) :=
  ⟨.f2 .rolZeroPage, (rfl : opcodeFormat 0x26 = some (.f2 .rolZeroPage)), rfl, rfl, rfl⟩
theorem MapRow.rolZeroPageX (z : Byte) : MapRow.Statement (.rolZeroPageX z) :=
  ⟨.f2 .rolZeroPageX, (rfl : opcodeFormat 0x36 = some (.f2 .rolZeroPageX)), rfl, rfl, rfl⟩
theorem MapRow.rolAbsolute (a : Addr) : MapRow.Statement (.rolAbsolute a) :=
  ⟨.f3 .rolAbsolute, (rfl : opcodeFormat 0x2E = some (.f3 .rolAbsolute)), rfl, rfl, rfl⟩
theorem MapRow.rolAbsoluteX (a : Addr) : MapRow.Statement (.rolAbsoluteX a) :=
  ⟨.f3 .rolAbsoluteX, (rfl : opcodeFormat 0x3E = some (.f3 .rolAbsoluteX)), rfl, rfl, rfl⟩
theorem MapRow.rolImplied : MapRow.Statement .rolImplied :=
  ⟨.f1 .rolImplied, (rfl : opcodeFormat 0x2A = some (.f1 .rolImplied)), rfl, rfl, rfl⟩
theorem MapRow.rorZeroPage (z : Byte) : MapRow.Statement (.rorZeroPage z) :=
  ⟨.f2 .rorZeroPage, (rfl : opcodeFormat 0x66 = some (.f2 .rorZeroPage)), rfl, rfl, rfl⟩
theorem MapRow.rorZeroPageX (z : Byte) : MapRow.Statement (.rorZeroPageX z) :=
  ⟨.f2 .rorZeroPageX, (rfl : opcodeFormat 0x76 = some (.f2 .rorZeroPageX)), rfl, rfl, rfl⟩
theorem MapRow.rorAbsolute (a : Addr) : MapRow.Statement (.rorAbsolute a) :=
  ⟨.f3 .rorAbsolute, (rfl : opcodeFormat 0x6E = some (.f3 .rorAbsolute)), rfl, rfl, rfl⟩
theorem MapRow.rorAbsoluteX (a : Addr) : MapRow.Statement (.rorAbsoluteX a) :=
  ⟨.f3 .rorAbsoluteX, (rfl : opcodeFormat 0x7E = some (.f3 .rorAbsoluteX)), rfl, rfl, rfl⟩
theorem MapRow.rorImplied : MapRow.Statement .rorImplied :=
  ⟨.f1 .rorImplied, (rfl : opcodeFormat 0x6A = some (.f1 .rorImplied)), rfl, rfl, rfl⟩
theorem MapRow.rtiImplied : MapRow.Statement .rtiImplied :=
  ⟨.f1 .rtiImplied, (rfl : opcodeFormat 0x40 = some (.f1 .rtiImplied)), rfl, rfl, rfl⟩
theorem MapRow.rtsImplied : MapRow.Statement .rtsImplied :=
  ⟨.f1 .rtsImplied, (rfl : opcodeFormat 0x60 = some (.f1 .rtsImplied)), rfl, rfl, rfl⟩
theorem MapRow.sbcImmediate (b : Byte) : MapRow.Statement (.sbcImmediate b) :=
  ⟨.f2 .sbcImmediate, (rfl : opcodeFormat 0xE9 = some (.f2 .sbcImmediate)), rfl, rfl, rfl⟩
theorem MapRow.sbcZeroPage (z : Byte) : MapRow.Statement (.sbcZeroPage z) :=
  ⟨.f2 .sbcZeroPage, (rfl : opcodeFormat 0xE5 = some (.f2 .sbcZeroPage)), rfl, rfl, rfl⟩
theorem MapRow.sbcZeroPageX (z : Byte) : MapRow.Statement (.sbcZeroPageX z) :=
  ⟨.f2 .sbcZeroPageX, (rfl : opcodeFormat 0xF5 = some (.f2 .sbcZeroPageX)), rfl, rfl, rfl⟩
theorem MapRow.sbcAbsolute (a : Addr) : MapRow.Statement (.sbcAbsolute a) :=
  ⟨.f3 .sbcAbsolute, (rfl : opcodeFormat 0xED = some (.f3 .sbcAbsolute)), rfl, rfl, rfl⟩
theorem MapRow.sbcAbsoluteX (a : Addr) : MapRow.Statement (.sbcAbsoluteX a) :=
  ⟨.f3 .sbcAbsoluteX, (rfl : opcodeFormat 0xFD = some (.f3 .sbcAbsoluteX)), rfl, rfl, rfl⟩
theorem MapRow.sbcAbsoluteY (a : Addr) : MapRow.Statement (.sbcAbsoluteY a) :=
  ⟨.f3 .sbcAbsoluteY, (rfl : opcodeFormat 0xF9 = some (.f3 .sbcAbsoluteY)), rfl, rfl, rfl⟩
theorem MapRow.sbcPreIndexedIndirectX (z : Byte) : MapRow.Statement (.sbcPreIndexedIndirectX z) :=
  ⟨.f2 .sbcPreIndexedIndirectX, (rfl : opcodeFormat 0xE1 = some (.f2 .sbcPreIndexedIndirectX)), rfl, rfl, rfl⟩
theorem MapRow.sbcPostIndexedIndirectY (z : Byte) : MapRow.Statement (.sbcPostIndexedIndirectY z) :=
  ⟨.f2 .sbcPostIndexedIndirectY, (rfl : opcodeFormat 0xF1 = some (.f2 .sbcPostIndexedIndirectY)), rfl, rfl, rfl⟩
theorem MapRow.secImplied : MapRow.Statement .secImplied :=
  ⟨.f1 .secImplied, (rfl : opcodeFormat 0x38 = some (.f1 .secImplied)), rfl, rfl, rfl⟩
theorem MapRow.sedImplied : MapRow.Statement .sedImplied :=
  ⟨.f1 .sedImplied, (rfl : opcodeFormat 0xF8 = some (.f1 .sedImplied)), rfl, rfl, rfl⟩
theorem MapRow.seiImplied : MapRow.Statement .seiImplied :=
  ⟨.f1 .seiImplied, (rfl : opcodeFormat 0x78 = some (.f1 .seiImplied)), rfl, rfl, rfl⟩
theorem MapRow.staZeroPage (z : Byte) : MapRow.Statement (.staZeroPage z) :=
  ⟨.f2 .staZeroPage, (rfl : opcodeFormat 0x85 = some (.f2 .staZeroPage)), rfl, rfl, rfl⟩
theorem MapRow.staZeroPageX (z : Byte) : MapRow.Statement (.staZeroPageX z) :=
  ⟨.f2 .staZeroPageX, (rfl : opcodeFormat 0x95 = some (.f2 .staZeroPageX)), rfl, rfl, rfl⟩
theorem MapRow.staAbsolute (a : Addr) : MapRow.Statement (.staAbsolute a) :=
  ⟨.f3 .staAbsolute, (rfl : opcodeFormat 0x8D = some (.f3 .staAbsolute)), rfl, rfl, rfl⟩
theorem MapRow.staAbsoluteX (a : Addr) : MapRow.Statement (.staAbsoluteX a) :=
  ⟨.f3 .staAbsoluteX, (rfl : opcodeFormat 0x9D = some (.f3 .staAbsoluteX)), rfl, rfl, rfl⟩
theorem MapRow.staAbsoluteY (a : Addr) : MapRow.Statement (.staAbsoluteY a) :=
  ⟨.f3 .staAbsoluteY, (rfl : opcodeFormat 0x99 = some (.f3 .staAbsoluteY)), rfl, rfl, rfl⟩
theorem MapRow.staPreIndexedIndirectX (z : Byte) : MapRow.Statement (.staPreIndexedIndirectX z) :=
  ⟨.f2 .staPreIndexedIndirectX, (rfl : opcodeFormat 0x81 = some (.f2 .staPreIndexedIndirectX)), rfl, rfl, rfl⟩
theorem MapRow.staPostIndexedIndirectY (z : Byte) : MapRow.Statement (.staPostIndexedIndirectY z) :=
  ⟨.f2 .staPostIndexedIndirectY, (rfl : opcodeFormat 0x91 = some (.f2 .staPostIndexedIndirectY)), rfl, rfl, rfl⟩
theorem MapRow.stxZeroPage (z : Byte) : MapRow.Statement (.stxZeroPage z) :=
  ⟨.f2 .stxZeroPage, (rfl : opcodeFormat 0x86 = some (.f2 .stxZeroPage)), rfl, rfl, rfl⟩
theorem MapRow.stxZeroPageY (z : Byte) : MapRow.Statement (.stxZeroPageY z) :=
  ⟨.f2 .stxZeroPageY, (rfl : opcodeFormat 0x96 = some (.f2 .stxZeroPageY)), rfl, rfl, rfl⟩
theorem MapRow.stxAbsolute (a : Addr) : MapRow.Statement (.stxAbsolute a) :=
  ⟨.f3 .stxAbsolute, (rfl : opcodeFormat 0x8E = some (.f3 .stxAbsolute)), rfl, rfl, rfl⟩
theorem MapRow.styZeroPage (z : Byte) : MapRow.Statement (.styZeroPage z) :=
  ⟨.f2 .styZeroPage, (rfl : opcodeFormat 0x84 = some (.f2 .styZeroPage)), rfl, rfl, rfl⟩
theorem MapRow.styZeroPageX (z : Byte) : MapRow.Statement (.styZeroPageX z) :=
  ⟨.f2 .styZeroPageX, (rfl : opcodeFormat 0x94 = some (.f2 .styZeroPageX)), rfl, rfl, rfl⟩
theorem MapRow.styAbsolute (a : Addr) : MapRow.Statement (.styAbsolute a) :=
  ⟨.f3 .styAbsolute, (rfl : opcodeFormat 0x8C = some (.f3 .styAbsolute)), rfl, rfl, rfl⟩
theorem MapRow.taxImplied : MapRow.Statement .taxImplied :=
  ⟨.f1 .taxImplied, (rfl : opcodeFormat 0xAA = some (.f1 .taxImplied)), rfl, rfl, rfl⟩
theorem MapRow.tayImplied : MapRow.Statement .tayImplied :=
  ⟨.f1 .tayImplied, (rfl : opcodeFormat 0xA8 = some (.f1 .tayImplied)), rfl, rfl, rfl⟩
theorem MapRow.tsxImplied : MapRow.Statement .tsxImplied :=
  ⟨.f1 .tsxImplied, (rfl : opcodeFormat 0xBA = some (.f1 .tsxImplied)), rfl, rfl, rfl⟩
theorem MapRow.txaImplied : MapRow.Statement .txaImplied :=
  ⟨.f1 .txaImplied, (rfl : opcodeFormat 0x8A = some (.f1 .txaImplied)), rfl, rfl, rfl⟩
theorem MapRow.txsImplied : MapRow.Statement .txsImplied :=
  ⟨.f1 .txsImplied, (rfl : opcodeFormat 0x9A = some (.f1 .txsImplied)), rfl, rfl, rfl⟩
theorem MapRow.tyaImplied : MapRow.Statement .tyaImplied :=
  ⟨.f1 .tyaImplied, (rfl : opcodeFormat 0x98 = some (.f1 .tyaImplied)), rfl, rfl, rfl⟩

end Sys2Proof.Laws
end

