-- ==== Sys2Proof/Tests/Slice0.lean ====
section
/-! SUPPORT. The model's own tests, with expected results from spec/ (95_test_vectors.md where no other place is
named), and a witness for the hypotheses of each statement that has them. -/

namespace Sys2Proof.Tests

open Sys2Proof.Machine Sys2Proof.Safety Sys2Proof.Forms

/-- The next state of an outcome, if it is one. -/
def nextOf : StepOutcome → Option State
  | .next t => some t
  | .fault _ => none
  | .refused _ => none

/-- The outcome is a next state that meets `q`. -/
def nextMeets (o : StepOutcome) (q : State → Bool) : Bool := (nextOf o).any q

theorem next_of_meets {o : StepOutcome} {q : State → Bool} (h : nextMeets o q = true) :
    ∃ t, o = .next t ∧ q t = true := by
  cases o <;> simp_all [nextMeets, nextOf]

/-- A memory holding bytes at the addresses listed, 0x00 elsewhere. -/
def memOf (l : List (Addr × List Byte)) : Memory := l.foldl (fun m c => m.load c.1 c.2) []

/-- The state after construction with A, P and PC chosen and a memory. -/
def stateOf (a p : Byte) (pc : Addr) (l : List (Addr × List Byte)) : State :=
  State.start a 0 0 0 pc p (memOf l)

/-- Each list of bytes, laid out as a word of the opcode table, decodes to its instruction. -/
def decodesAll (l : List (List Nat × Instr)) : Bool :=
  l.all (fun c => decodeTableWord (8 * c.1.length) (c.1.foldr (fun b w => b + 256 * w) 0) = some c.2)

/-! ## WellFormed: pairs that no encoding gives are refused -/

theorem test_wf_refuses_value_modes :
    [pairWf .ADC (.zeroPageY 0x10), pairWf .ADC .implied, pairWf .AND (.indirect 0x2000),
     pairWf .ASL (.immediate 0x01), pairWf .ASL (.absoluteY 0x2000), pairWf .BIT (.immediate 0x01),
     pairWf .CPX (.zeroPageX 0x01), pairWf .DEC .implied, pairWf .CMP (.zeroPageY 0x01)].all (! ·) = true := by
  decide

theorem test_wf_refuses_load_store_modes :
    [pairWf .LDA (.relative 0x01), pairWf .LDA (.zeroPageY 0x01), pairWf .LDX (.zeroPageX 0x01),
     pairWf .LDY (.absoluteY 0x01), pairWf .STA (.immediate 0x01), pairWf .STX (.zeroPageX 0x01),
     pairWf .STX (.absoluteY 0x01), pairWf .STY (.zeroPageY 0x01)].all (! ·) = true := by
  decide

theorem test_wf_refuses_control_modes :
    [pairWf .JMP (.absoluteX 0x1234), pairWf .JSR (.indirect 0x1234), pairWf .BNE (.absolute 0x1234),
     pairWf .NOP (.immediate 0x01), pairWf .BRK (.relative 0x01), pairWf .LSR (.absoluteY 0x01),
     pairWf .TAX (.zeroPage 0x01), pairWf .PHA (.absolute 0x01)].all (! ·) = true := by
  decide

theorem test_wf_accepts :
    [pairWf .ADC (.immediate 0x05), pairWf .ASL .implied, pairWf .JMP (.indirect 0x1234),
     pairWf .LDX (.zeroPageY 0x10), pairWf .BNE (.relative 0xFE), pairWf .STA (.absoluteX 0x2000)].all id = true := by
  decide

/-! ## Decoding: every constructor, its opcode written out bit by bit -/

/-- Row 0- of 30_encoding.md R99, in the bits of spec/opcode_table.json. -/
theorem test_decode_row_0 : decodesAll
    [([0b00000000], .brkImplied),
     ([0b00000001, 0x5A], .oraPreIndexedIndirectX 0x5A),
     ([0b00000101, 0x5A], .oraZeroPage 0x5A),
     ([0b00000110, 0x5A], .aslZeroPage 0x5A),
     ([0b00001000], .phpImplied),
     ([0b00001001, 0x5A], .oraImmediate 0x5A),
     ([0b00001010], .aslImplied),
     ([0b00001101, 0x34, 0x12], .oraAbsolute 0x1234),
     ([0b00001110, 0x34, 0x12], .aslAbsolute 0x1234)] = true := by decide

/-- Row 1- of 30_encoding.md R99, in the bits of spec/opcode_table.json. -/
theorem test_decode_row_1 : decodesAll
    [([0b00010000, 0x5A], .bplRelative 0x5A),
     ([0b00010001, 0x5A], .oraPostIndexedIndirectY 0x5A),
     ([0b00010101, 0x5A], .oraZeroPageX 0x5A),
     ([0b00010110, 0x5A], .aslZeroPageX 0x5A),
     ([0b00011000], .clcImplied),
     ([0b00011001, 0x34, 0x12], .oraAbsoluteY 0x1234),
     ([0b00011101, 0x34, 0x12], .oraAbsoluteX 0x1234),
     ([0b00011110, 0x34, 0x12], .aslAbsoluteX 0x1234)] = true := by decide

/-- Row 2- of 30_encoding.md R99, in the bits of spec/opcode_table.json. -/
theorem test_decode_row_2 : decodesAll
    [([0b00100000, 0x34, 0x12], .jsrAbsolute 0x1234),
     ([0b00100001, 0x5A], .andPreIndexedIndirectX 0x5A),
     ([0b00100100, 0x5A], .bitZeroPage 0x5A),
     ([0b00100101, 0x5A], .andZeroPage 0x5A),
     ([0b00100110, 0x5A], .rolZeroPage 0x5A),
     ([0b00101000], .plpImplied),
     ([0b00101001, 0x5A], .andImmediate 0x5A),
     ([0b00101010], .rolImplied),
     ([0b00101100, 0x34, 0x12], .bitAbsolute 0x1234),
     ([0b00101101, 0x34, 0x12], .andAbsolute 0x1234),
     ([0b00101110, 0x34, 0x12], .rolAbsolute 0x1234)] = true := by decide

/-- Row 3- of 30_encoding.md R99, in the bits of spec/opcode_table.json. -/
theorem test_decode_row_3 : decodesAll
    [([0b00110000, 0x5A], .bmiRelative 0x5A),
     ([0b00110001, 0x5A], .andPostIndexedIndirectY 0x5A),
     ([0b00110101, 0x5A], .andZeroPageX 0x5A),
     ([0b00110110, 0x5A], .rolZeroPageX 0x5A),
     ([0b00111000], .secImplied),
     ([0b00111001, 0x34, 0x12], .andAbsoluteY 0x1234),
     ([0b00111101, 0x34, 0x12], .andAbsoluteX 0x1234),
     ([0b00111110, 0x34, 0x12], .rolAbsoluteX 0x1234)] = true := by decide

/-- Row 4- of 30_encoding.md R99, in the bits of spec/opcode_table.json. -/
theorem test_decode_row_4 : decodesAll
    [([0b01000000], .rtiImplied),
     ([0b01000001, 0x5A], .eorPreIndexedIndirectX 0x5A),
     ([0b01000101, 0x5A], .eorZeroPage 0x5A),
     ([0b01000110, 0x5A], .lsrZeroPage 0x5A),
     ([0b01001000], .phaImplied),
     ([0b01001001, 0x5A], .eorImmediate 0x5A),
     ([0b01001010], .lsrImplied),
     ([0b01001100, 0x34, 0x12], .jmpAbsolute 0x1234),
     ([0b01001101, 0x34, 0x12], .eorAbsolute 0x1234),
     ([0b01001110, 0x34, 0x12], .lsrAbsolute 0x1234)] = true := by decide

/-- Row 5- of 30_encoding.md R99, in the bits of spec/opcode_table.json. -/
theorem test_decode_row_5 : decodesAll
    [([0b01010000, 0x5A], .bvcRelative 0x5A),
     ([0b01010001, 0x5A], .eorPostIndexedIndirectY 0x5A),
     ([0b01010101, 0x5A], .eorZeroPageX 0x5A),
     ([0b01010110, 0x5A], .lsrZeroPageX 0x5A),
     ([0b01011000], .cliImplied),
     ([0b01011001, 0x34, 0x12], .eorAbsoluteY 0x1234),
     ([0b01011101, 0x34, 0x12], .eorAbsoluteX 0x1234),
     ([0b01011110, 0x34, 0x12], .lsrAbsoluteX 0x1234)] = true := by decide

/-- Row 6- of 30_encoding.md R99, in the bits of spec/opcode_table.json. -/
theorem test_decode_row_6 : decodesAll
    [([0b01100000], .rtsImplied),
     ([0b01100001, 0x5A], .adcPreIndexedIndirectX 0x5A),
     ([0b01100101, 0x5A], .adcZeroPage 0x5A),
     ([0b01100110, 0x5A], .rorZeroPage 0x5A),
     ([0b01101000], .plaImplied),
     ([0b01101001, 0x5A], .adcImmediate 0x5A),
     ([0b01101010], .rorImplied),
     ([0b01101100, 0x34, 0x12], .jmpIndirect 0x1234),
     ([0b01101101, 0x34, 0x12], .adcAbsolute 0x1234),
     ([0b01101110, 0x34, 0x12], .rorAbsolute 0x1234)] = true := by decide

/-- Row 7- of 30_encoding.md R99, in the bits of spec/opcode_table.json. -/
theorem test_decode_row_7 : decodesAll
    [([0b01110000, 0x5A], .bvsRelative 0x5A),
     ([0b01110001, 0x5A], .adcPostIndexedIndirectY 0x5A),
     ([0b01110101, 0x5A], .adcZeroPageX 0x5A),
     ([0b01110110, 0x5A], .rorZeroPageX 0x5A),
     ([0b01111000], .seiImplied),
     ([0b01111001, 0x34, 0x12], .adcAbsoluteY 0x1234),
     ([0b01111101, 0x34, 0x12], .adcAbsoluteX 0x1234),
     ([0b01111110, 0x34, 0x12], .rorAbsoluteX 0x1234)] = true := by decide

/-- Row 8- of 30_encoding.md R99, in the bits of spec/opcode_table.json. -/
theorem test_decode_row_8 : decodesAll
    [([0b10000001, 0x5A], .staPreIndexedIndirectX 0x5A),
     ([0b10000100, 0x5A], .styZeroPage 0x5A),
     ([0b10000101, 0x5A], .staZeroPage 0x5A),
     ([0b10000110, 0x5A], .stxZeroPage 0x5A),
     ([0b10001000], .deyImplied),
     ([0b10001010], .txaImplied),
     ([0b10001100, 0x34, 0x12], .styAbsolute 0x1234),
     ([0b10001101, 0x34, 0x12], .staAbsolute 0x1234),
     ([0b10001110, 0x34, 0x12], .stxAbsolute 0x1234)] = true := by decide

/-- Row 9- of 30_encoding.md R99, in the bits of spec/opcode_table.json. -/
theorem test_decode_row_9 : decodesAll
    [([0b10010000, 0x5A], .bccRelative 0x5A),
     ([0b10010001, 0x5A], .staPostIndexedIndirectY 0x5A),
     ([0b10010100, 0x5A], .styZeroPageX 0x5A),
     ([0b10010101, 0x5A], .staZeroPageX 0x5A),
     ([0b10010110, 0x5A], .stxZeroPageY 0x5A),
     ([0b10011000], .tyaImplied),
     ([0b10011001, 0x34, 0x12], .staAbsoluteY 0x1234),
     ([0b10011010], .txsImplied),
     ([0b10011101, 0x34, 0x12], .staAbsoluteX 0x1234)] = true := by decide

/-- Row A- of 30_encoding.md R99, in the bits of spec/opcode_table.json. -/
theorem test_decode_row_A : decodesAll
    [([0b10100000, 0x5A], .ldyImmediate 0x5A),
     ([0b10100001, 0x5A], .ldaPreIndexedIndirectX 0x5A),
     ([0b10100010, 0x5A], .ldxImmediate 0x5A),
     ([0b10100100, 0x5A], .ldyZeroPage 0x5A),
     ([0b10100101, 0x5A], .ldaZeroPage 0x5A),
     ([0b10100110, 0x5A], .ldxZeroPage 0x5A),
     ([0b10101000], .tayImplied),
     ([0b10101001, 0x5A], .ldaImmediate 0x5A),
     ([0b10101010], .taxImplied),
     ([0b10101100, 0x34, 0x12], .ldyAbsolute 0x1234),
     ([0b10101101, 0x34, 0x12], .ldaAbsolute 0x1234),
     ([0b10101110, 0x34, 0x12], .ldxAbsolute 0x1234)] = true := by decide

/-- Row B- of 30_encoding.md R99, in the bits of spec/opcode_table.json. -/
theorem test_decode_row_B : decodesAll
    [([0b10110000, 0x5A], .bcsRelative 0x5A),
     ([0b10110001, 0x5A], .ldaPostIndexedIndirectY 0x5A),
     ([0b10110100, 0x5A], .ldyZeroPageX 0x5A),
     ([0b10110101, 0x5A], .ldaZeroPageX 0x5A),
     ([0b10110110, 0x5A], .ldxZeroPageY 0x5A),
     ([0b10111000], .clvImplied),
     ([0b10111001, 0x34, 0x12], .ldaAbsoluteY 0x1234),
     ([0b10111010], .tsxImplied),
     ([0b10111100, 0x34, 0x12], .ldyAbsoluteX 0x1234),
     ([0b10111101, 0x34, 0x12], .ldaAbsoluteX 0x1234),
     ([0b10111110, 0x34, 0x12], .ldxAbsoluteY 0x1234)] = true := by decide

/-- Row C- of 30_encoding.md R99, in the bits of spec/opcode_table.json. -/
theorem test_decode_row_C : decodesAll
    [([0b11000000, 0x5A], .cpyImmediate 0x5A),
     ([0b11000001, 0x5A], .cmpPreIndexedIndirectX 0x5A),
     ([0b11000100, 0x5A], .cpyZeroPage 0x5A),
     ([0b11000101, 0x5A], .cmpZeroPage 0x5A),
     ([0b11000110, 0x5A], .decZeroPage 0x5A),
     ([0b11001000], .inyImplied),
     ([0b11001001, 0x5A], .cmpImmediate 0x5A),
     ([0b11001010], .dexImplied),
     ([0b11001100, 0x34, 0x12], .cpyAbsolute 0x1234),
     ([0b11001101, 0x34, 0x12], .cmpAbsolute 0x1234),
     ([0b11001110, 0x34, 0x12], .decAbsolute 0x1234)] = true := by decide

/-- Row D- of 30_encoding.md R99, in the bits of spec/opcode_table.json. -/
theorem test_decode_row_D : decodesAll
    [([0b11010000, 0x5A], .bneRelative 0x5A),
     ([0b11010001, 0x5A], .cmpPostIndexedIndirectY 0x5A),
     ([0b11010101, 0x5A], .cmpZeroPageX 0x5A),
     ([0b11010110, 0x5A], .decZeroPageX 0x5A),
     ([0b11011000], .cldImplied),
     ([0b11011001, 0x34, 0x12], .cmpAbsoluteY 0x1234),
     ([0b11011101, 0x34, 0x12], .cmpAbsoluteX 0x1234),
     ([0b11011110, 0x34, 0x12], .decAbsoluteX 0x1234)] = true := by decide

/-- Row E- of 30_encoding.md R99, in the bits of spec/opcode_table.json. -/
theorem test_decode_row_E : decodesAll
    [([0b11100000, 0x5A], .cpxImmediate 0x5A),
     ([0b11100001, 0x5A], .sbcPreIndexedIndirectX 0x5A),
     ([0b11100100, 0x5A], .cpxZeroPage 0x5A),
     ([0b11100101, 0x5A], .sbcZeroPage 0x5A),
     ([0b11100110, 0x5A], .incZeroPage 0x5A),
     ([0b11101000], .inxImplied),
     ([0b11101001, 0x5A], .sbcImmediate 0x5A),
     ([0b11101010], .nopImplied),
     ([0b11101100, 0x34, 0x12], .cpxAbsolute 0x1234),
     ([0b11101101, 0x34, 0x12], .sbcAbsolute 0x1234),
     ([0b11101110, 0x34, 0x12], .incAbsolute 0x1234)] = true := by decide

/-- Row F- of 30_encoding.md R99, in the bits of spec/opcode_table.json. -/
theorem test_decode_row_F : decodesAll
    [([0b11110000, 0x5A], .beqRelative 0x5A),
     ([0b11110001, 0x5A], .sbcPostIndexedIndirectY 0x5A),
     ([0b11110101, 0x5A], .sbcZeroPageX 0x5A),
     ([0b11110110, 0x5A], .incZeroPageX 0x5A),
     ([0b11111000], .sedImplied),
     ([0b11111001, 0x34, 0x12], .sbcAbsoluteY 0x1234),
     ([0b11111101, 0x34, 0x12], .sbcAbsoluteX 0x1234),
     ([0b11111110, 0x34, 0x12], .incAbsoluteX 0x1234)] = true := by decide

/-- 30_encoding.md R100: the 105 illegal values are refused, whatever follows. -/
theorem test_decode_refuses_illegal :
    illegalOpcodes.all (fun op => decodeTableWord 24 (op.toNat + 0x123400) = none) = true := by decide

/-- V-DEC rows 11 and 12: the fetch wraps at the top of the address space. -/
theorem test_fetch_wraps :
    fetch (memOf [(0xFFFF, [0x69, 0x07])]) 0xFFFF = .ok (.adcImmediate 0x07) ∧
    fetch (memOf [(0xFFFE, [0x6D, 0x34, 0x12])]) 0xFFFE = .ok (.adcAbsolute 0x1234) := ⟨rfl, rfl⟩

/-- V-DEC rows 2 and 8: the reads of a three-byte instruction and of an illegal opcode. -/
theorem test_fetch_accesses :
    fetchAccesses activeConfig (memOf [(0x0300, [0x6D, 0x34, 0x12])]) 0x0300 = [.read 0x0300, .read 0x0301, .read 0x0302] ∧
    fetchAccesses activeConfig (memOf [(0x0300, [0x02])]) 0x0300 = [.read 0x0300] := by decide

/-- 30_encoding.md R105. -/
theorem test_asm_label :
    asm (fun _ => "loop") (.bneRelative 0xFE) = "BNE loop" ∧ asm (fun _ => "") .nopImplied = "NOP" := by decide

/-! ## The status register and the resolver -/

/-- V-STATE, P = 0xC3. -/
theorem test_flags_of_C3 :
    ([Flag.N, .V, .B, .D, .I, .Z, .C].map (fun f => getFlag f 0xC3)) =
      [true, true, false, false, false, true, true] ∧ reservedBit 0xC3 = false := by decide

/-- W1 and W2. -/
theorem test_page_cross :
    addCheckPageCross 0xFFFF 0xFF = (0x00FE, true) ∧ zeroPageAdd 0xFF 0xFF = 0xFE ∧
    addCheckPageCross 0x00FF 1 = (0x0100, true) ∧ addCheckPageCross 0x01FA 1 = (0x01FB, false) := by decide

/-- V-RES rows 1 to 13, with X and Y as each row gives them. -/
theorem test_resolver_direct :
    resolveValue .ADC (.immediate 0x7F) 0 0 [] = .ok (0x7F, 0) ∧
    resolveAddress .ADC (.zeroPage 0x42) 0 0 [] = .ok (0x0042, 0) ∧
    resolveAddress .ADC (.zeroPageX 0xF0) 0x20 0 [] = .ok (0x0010, 0) ∧
    resolveAddress .ADC (.zeroPageX 0xFF) 0x01 0 [] = .ok (0x0000, 0) ∧
    resolveAddress .ADC (.zeroPageY 0x10) 0 0x05 [] = .error (.unsupportedAddressingMode .ADC (.zeroPageY 0x10)) ∧
    resolveAddress .ADC (.absolute 0x1234) 0 0 [] = .ok (0x1234, 0) ∧
    resolveAddress .ADC (.absoluteX 0x12F0) 0x0F 0 [] = .ok (0x12FF, 0) ∧
    resolveAddress .ADC (.absoluteX 0x12F0) 0x10 0 [] = .ok (0x1300, 1) ∧
    resolveAddress .ADC (.absoluteX 0x12F0) 0x20 0 [] = .ok (0x1310, 1) ∧
    resolveAddress .ADC (.absoluteX 0xFFFF) 0x01 0 [] = .ok (0x0000, 1) ∧
    resolveAddress .ADC (.absoluteY 0x2000) 0 0xFF [] = .ok (0x20FF, 0) ∧
    resolveAddress .ADC (.absoluteY 0x20F0) 0 0x10 [] = .ok (0x2100, 1) ∧
    resolveAddress .JMP (.indirect 0x1234) 0 0 (memOf [(0x1234, [0x78])]) = .ok (0x1234, 0) :=
  ⟨rfl, rfl, rfl, rfl, rfl, rfl, rfl, rfl, rfl, rfl, rfl, rfl, rfl⟩

/-- V-RES rows 14 to 22. -/
theorem test_resolver_pointers :
    resolveAddress .ADC (.preIndexedIndirectX 0x08) 0x08 0 (memOf [(0x10, [0xBB, 0xCA])]) = .ok (0xCABB, 0) ∧
    resolveAddress .ADC (.preIndexedIndirectX 0xE8) 0x20 0 (memOf [(0x08, [0xBB, 0xCA])]) = .ok (0xCABB, 0) ∧
    resolveAddress .ADC (.preIndexedIndirectX 0xFF) 0x00 0 (memOf [(0xFF, [0x34, 0x12]), (0x00, [0x99])]) =
      .ok (0x1234, 0) ∧
    resolveAddress .ADC (.postIndexedIndirectY 0x10) 0 0x20 (memOf [(0x10, [0x9B, 0xCA])]) = .ok (0xCABB, 0) ∧
    resolveAddress .ADC (.postIndexedIndirectY 0x10) 0 0x20 (memOf [(0x10, [0xF0, 0x12])]) = .ok (0x1310, 1) ∧
    resolveAddress .ADC (.postIndexedIndirectY 0xFF) 0 0x01 (memOf [(0xFF, [0xFF, 0x20]), (0x00, [0x77])]) =
      .ok (0x2100, 1) ∧
    resolveAddress .ADC (.postIndexedIndirectY 0x40) 0 0x01 (memOf [(0x40, [0xFF, 0xFF])]) = .ok (0x0000, 1) ∧
    resolveAddress .BNE (.relative 0x05) 0 0 [] = .error (.unsupportedAddressingMode .BNE (.relative 0x05)) ∧
    resolveAddress .ASL (.immediate 0x01) 0 0 [] = .error (.unsupportedAddressingMode .ASL (.immediate 0x01)) :=
  ⟨rfl, rfl, rfl, rfl, rfl, rfl, rfl, rfl, rfl⟩

/-! ## Memory -/

/-- 20_memory.md R52, R57; a write of the unlisted byte removes its entry (log 2). -/
theorem test_memory_canonical :
    ((memOf [(0x20, [2]), (0x10, [1])]).write 0x20 0) = [(0x10, 1)] ∧
    memOf [(0x20, [2]), (0x10, [1])] = memOf [(0x10, [1]), (0x20, [2])] ∧
    (memOf [(0xFFFF, [7, 8])]).read 0x0000 = 8 := by decide

/-! ## ADC, AND and ASL, one step each -/

/-- A row of V-ADC: A, val, C in; A out and P out. -/
def adcRow (r : Byte × Byte × Byte × Byte × Byte) : Bool :=
  nextMeets (step (stateOf r.1 r.2.2.1 0x0300 [(0x0300, [0x69, r.2.1])]))
    (fun t => t.a = r.2.2.2.1 ∧ t.p = r.2.2.2.2 ∧ t.pc = 0x0302 ∧ t.cyc = 2)

/-- V-ADC, the rows 1 to 9; P out is N, V, Z, C at bits 7, 6, 1, 0. -/
theorem test_adc_rows_a :
    [(0x00, 0x05, 0, 0x05, 0x00), (0x05, 0xFA, 0, 0xFF, 0x80), (0xFF, 0x01, 0, 0x00, 0x03),
     (0x00, 0x40, 0, 0x40, 0x00), (0x40, 0x40, 0, 0x80, 0xC0), (0x80, 0x80, 0, 0x00, 0x43),
     (0x7F, 0x01, 0, 0x80, 0xC0), (0x80, 0xFF, 0, 0x7F, 0x41), (0xFF, 0xFF, 1, 0xFF, 0x81)].all adcRow = true := by
  decide

/-- V-ADC, the rows 10 to 18. -/
theorem test_adc_rows_b :
    [(0xFF, 0x00, 1, 0x00, 0x03), (0x00, 0x00, 0, 0x00, 0x02), (0x00, 0x00, 1, 0x01, 0x00),
     (0x7F, 0x7F, 1, 0xFF, 0xC0), (0x80, 0x7F, 1, 0x00, 0x03), (0x50, 0xD0, 0, 0x20, 0x01),
     (0x01, 0xFF, 0, 0x00, 0x03), (0x3F, 0x40, 1, 0x80, 0xC0), (0xD0, 0x90, 0, 0x60, 0x41)].all adcRow = true := by
  decide

/-- V-ADC, P = 0x3C: bit 5, B, D and I are kept; and P = 0x08 under Binary and under Refuse. -/
theorem test_adc_keeps_control_bits :
    nextMeets (exec (.adcImmediate 0x01) (stateOf 0x7F 0x3C 0 [])) (fun t => t.a = 0x80 ∧ t.p = 0xFC) = true ∧
    nextMeets (exec (.adcImmediate 0x01) (stateOf 0x09 0x08 0 [])) (fun t => t.a = 0x0A ∧ t.p = 0x08) = true ∧
    nextOf (execute { activeConfig with decimalAdc := .refuse } .ADC (.immediate 0x01) (stateOf 0x09 0x08 0 [])) =
      none := by decide

/-- V-ADC, the memory operand: `ADC $42`. -/
theorem test_adc_zero_page :
    nextMeets (step (stateOf 0x05 0 0 [(0x0000, [0x65, 0x42]), (0x0042, [0x10])]))
      (fun t => t.a = 0x15 ∧ t.cyc = 3) = true ∧
    stepAccesses activeConfig (stateOf 0x05 0 0 [(0x0000, [0x65, 0x42]), (0x0042, [0x10])]) =
      [.read 0x0000, .read 0x0001, .read 0x0042] := by decide

/-- V-AND, and the two lines below its table and of V-STATE. -/
theorem test_and_rows :
    [(0x0C, 0x0A, 0x00, 0x08, 0x00), (0x0C, 0x0A, 0x41, 0x08, 0x41), (0xFF, 0x80, 0x00, 0x80, 0x80),
     (0xFF, 0x80, 0x41, 0x80, 0xC1), (0x5A, 0x00, 0x00, 0x00, 0x02), (0x5A, 0x00, 0x41, 0x00, 0x43),
     (0xA5, 0xA5, 0x41, 0xA5, 0xC1), (0xF0, 0x0F, 0x41, 0x00, 0x43), (0xFF, 0xFF, 0x41, 0xFF, 0xC1),
     (0x01, 0x01, 0x82, 0x01, 0x00), (0x55, 0x00, 0x3C, 0x00, 0x3E)].all
      (fun r : Byte × Byte × Byte × Byte × Byte =>
        nextMeets (exec (.andImmediate r.2.1) (stateOf r.1 r.2.2.1 0 []))
          (fun t => t.a = r.2.2.2.1 ∧ t.p = r.2.2.2.2)) = true := by decide

/-- A row of V-ASL: A, P; A out, P under Canonical, P under AsWritten. -/
def aslRow (r : Byte × Byte × Byte × Byte × Byte) : Bool :=
  nextMeets (step (stateOf r.1 r.2.1 0x0300 [(0x0300, [0x0A])]))
    (fun t => t.a = r.2.2.1 ∧ t.p = r.2.2.2.1 ∧ t.pc = 0x0301 ∧ t.cyc = 2) &&
  nextMeets (stepWith { activeConfig with aslCarry := .asWritten } (stateOf r.1 r.2.1 0x0300 [(0x0300, [0x0A])]))
    (fun t => t.a = r.2.2.1 ∧ t.p = r.2.2.2.2)

/-- V-ASL, the accumulator form, the rows with C = 1 before and three with C = 0. -/
theorem test_asl_accumulator_rows :
    [(0x30, 0x00, 0x60, 0x00, 0x00), (0xC0, 0x00, 0x80, 0x81, 0x80), (0x80, 0x00, 0x00, 0x03, 0x02),
     (0x30, 0x01, 0x60, 0x00, 0x01), (0x60, 0x01, 0xC0, 0x80, 0x81), (0xC0, 0x01, 0x80, 0x81, 0x81),
     (0x80, 0x01, 0x00, 0x03, 0x03), (0x00, 0x01, 0x00, 0x02, 0x03), (0x40, 0x01, 0x80, 0x80, 0x81),
     (0xFF, 0x01, 0xFE, 0x81, 0x81), (0x01, 0x01, 0x02, 0x00, 0x01), (0x81, 0x01, 0x02, 0x01, 0x01)].all
      aslRow = true := by decide

/-- A row of V-ASL's memory forms: bytes, X, address, byte before; byte after, P, CYC. -/
def aslMemoryRow (r : List Byte × Byte × Addr × Byte × Byte × Byte × Nat) : Bool :=
  nextMeets (step (State.start 0x41 r.2.1 0 0 0x0300 0 (memOf [(0x0300, r.1), (r.2.2.1, [r.2.2.2.1])])))
    (fun t => t.mem.read r.2.2.1 = r.2.2.2.2.1 ∧ t.p = r.2.2.2.2.2.1 ∧ t.cyc.toNat = r.2.2.2.2.2.2 ∧ t.a = 0x41)

theorem test_asl_memory_rows :
    [([0x06, 0x42], 0x00, 0x0042, 0x41, 0x82, 0x80, 5), ([0x16, 0xF0], 0x20, 0x0010, 0xF0, 0xE0, 0x81, 6),
     ([0x0E, 0x34, 0x12], 0x00, 0x1234, 0x80, 0x00, 0x03, 6), ([0x1E, 0x00, 0x12], 0x34, 0x1234, 0x01, 0x02, 0x00, 6),
     ([0x1E, 0xFF, 0xFF], 0x20, 0x001F, 0x01, 0x02, 0x00, 7)].all aslMemoryRow = true := by decide

/-- V-ASL memory row 5: the accesses, in order. -/
theorem test_asl_memory_accesses :
    stepAccesses activeConfig
      (State.start 0 0x20 0 0 0x0300 0 (memOf [(0x0300, [0x1E, 0xFF, 0xFF]), (0x001F, [0x01])])) =
    [.read 0x0300, .read 0x0301, .read 0x0302, .read 0x001F, .write 0x001F 0x02] := by decide

/-- The step of an opcode with operand bytes, X and Y adds this many cycles and makes this many accesses. -/
def costRow (r : List Byte × Byte × Nat × Nat) : Bool :=
  let s := State.start 0 r.2.1 r.2.1 0 0x0300 0
    (memOf [(0x0300, r.1), (0x0040, [0x00, 0x20]), (0x0042, [0xF0, 0x20])])
  nextMeets (step s) (fun t => t.cyc.toNat = r.2.2.1 ∧ t.pc.toNat = 0x0300 + r.1.length) &&
    (stepAccesses activeConfig s).length == r.2.2.2

/-- V-CYC, no page crossed. -/
theorem test_cycles :
    [([0x69, 0x40], 0, 2, 2), ([0x65, 0x40], 0, 3, 3), ([0x75, 0x40], 0, 4, 3), ([0x6D, 0x00, 0x20], 0, 4, 4),
     ([0x7D, 0x00, 0x20], 0x10, 4, 4), ([0x79, 0x00, 0x20], 0x10, 4, 4), ([0x61, 0x40], 0, 6, 5),
     ([0x71, 0x40], 0x10, 5, 5), ([0x29, 0x40], 0, 2, 2), ([0x25, 0x40], 0, 3, 3), ([0x35, 0x40], 0, 4, 3),
     ([0x2D, 0x00, 0x20], 0, 4, 4), ([0x3D, 0x00, 0x20], 0x10, 4, 4), ([0x39, 0x00, 0x20], 0x10, 4, 4),
     ([0x21, 0x40], 0, 6, 5), ([0x31, 0x40], 0x10, 5, 5), ([0x0A], 0, 2, 1), ([0x06, 0x40], 0, 5, 4),
     ([0x16, 0x40], 0, 6, 4), ([0x0E, 0x00, 0x20], 0, 6, 5), ([0x1E, 0x00, 0x20], 0x10, 6, 5)].all costRow =
      true := by decide

/-- V-CYC, a page crossed. -/
theorem test_cycles_crossed :
    [([0x7D, 0xF0, 0x20], 0x10, 5, 4), ([0x79, 0xF0, 0x20], 0x10, 5, 4), ([0x71, 0x42], 0x10, 6, 5),
     ([0x3D, 0xF0, 0x20], 0x10, 5, 4), ([0x39, 0xF0, 0x20], 0x10, 5, 4), ([0x31, 0x42], 0x10, 6, 5),
     ([0x1E, 0xF0, 0x20], 0x10, 7, 5)].all costRow = true := by decide

/-- V-CYC's last line: CYC wraps. -/
theorem test_cycles_wrap :
    nextMeets (exec (.adcImmediate 0x00) { State.reset with cyc := 0xFFFFFFFFFFFFFFFF }) (fun t => t.cyc = 1) =
      true := by decide

/-- Part 3, P2: memory and the state before a step, at a PC with A, P and CYC. -/
def p2 (a p : Byte) (pc : Addr) (cyc : Cycles) : State :=
  { a := a, x := 0x20, y := 0x20, sp := 0, pc := pc, p := p, cyc := cyc, fault := none,
    mem := memOf [(0x0200, [0x65, 0x40, 0x7D, 0xF0, 0x12, 0x61, 0xE8, 0x71, 0x10, 0x3D, 0xF0, 0x12]),
      (0x020C, [0x16, 0xF0, 0x1E, 0xFF, 0xFF, 0x79, 0xF0, 0x12]), (0x0008, [0xBB, 0xCA]), (0x0010, [0xF0, 0x12]),
      (0x001F, [0x01]), (0x0040, [0x10]), (0x1310, [0x05]), (0xCABB, [0x70])] }

/-- P2, each step of an indexed or pointer mode from the state the table gives before it. -/
theorem test_p2_steps :
    [(p2 0x10 0x00 0x0202 3, p2 0x15 0x00 0x0205 8), (p2 0x15 0x00 0x0205 8, p2 0x85 0xC0 0x0207 14),
     (p2 0x85 0xC0 0x0207 14, p2 0x8A 0x80 0x0209 20), (p2 0x8A 0x80 0x0209 20, p2 0x00 0x02 0x020C 25),
     (p2 0x00 0x00 0x0211 38, p2 0x05 0x00 0x0214 43)].all (fun c => nextOf (step c.1) = some c.2) = true := by
  decide

/-- P4, the second step: the byte the first step wrote is fetched. -/
theorem test_p4_self_modifying :
    nextMeets (step (stateOf 0x41 0 0x0200 [(0x0200, [0x0E, 0x03, 0x02, 0x05])]))
      (fun t => t.mem.read 0x0203 = 0x0A ∧ nextMeets (step t) (fun u => u.a = 0x82 ∧ u.p = 0x80 ∧ u.cyc = 8)) =
      true := by decide

/-- 00_scope.md R8, 30_encoding.md R97, for tables of our own: ADC Immediate moved to opcode 0x02; then 0x69 has no
row. -/
def movedConfig : Config :=
  { activeConfig with costTable := [Machine.costRow .ADC .immediate 0x02 2 2, Machine.costRow .ADC .zeroPageY 0x03 2 4] }

theorem test_moved_opcode :
    nextMeets (stepWith movedConfig (stateOf 0x10 0 0x0300 [(0x0300, [0x02, 0x05])]))
      (fun t => t.a = 0x15 ∧ t.pc = 0x0302 ∧ t.cyc = 2) = true ∧
    nextMeets (stepWith movedConfig (stateOf 0x10 0 0x0300 [(0x0300, [0x69, 0x05])]))
      (fun t => t.fault = some (.illegalOpcode 0x69) ∧ t.pc = 0x0300) = true := by decide

/-- 60_exceptions.md R301: with a ZeroPageY row for ADC a step reaches the resolver, which raises; a row of three
bytes makes the decoder read three, and PC advance by three. -/
theorem test_changed_rows :
    nextMeets (stepWith movedConfig (stateOf 0x10 0 0x0300 [(0x0300, [0x03, 0x40])]))
      (fun t => t.fault = some (.unsupportedAddressingMode .ADC (.zeroPageY 0x40)) ∧ t.a = 0x10) = true ∧
    (let cfg : Config := { movedConfig with costTable := [Machine.costRow .ASL .implied 0x0A 3 2] }
     let s := stateOf 0x10 0 0x0300 [(0x0300, [0x0A])]
     nextMeets (stepWith cfg s) (fun t => t.a = 0x20 ∧ t.pc = 0x0303) = true ∧
     stepAccesses cfg s = [.read 0x0300, .read 0x0301, .read 0x0302]) := by decide

/-! ## Errors -/

/-- The start state of V-ERR. -/
def errState (l : List (Addr × List Byte)) : State :=
  { a := 0x12, x := 0x34, y := 0x56, sp := 0x78, pc := 0x0300, p := 0xC3, cyc := 100, fault := none, mem := memOf l }

/-- V-ERR1 to V-ERR7: `execute` of a pair records the error and changes nothing else. -/
theorem test_execute_errors :
    [(.ADC, .zeroPageY 0x10, .unsupportedAddressingMode .ADC (.zeroPageY 0x10)),
     (.AND, .indirect 0x2000, .unsupportedAddressingMode .AND (.indirect 0x2000)),
     (.ASL, .absoluteY 0x2000, .unsupportedAddressingMode .ASL (.absoluteY 0x2000)),
     (.ASL, .immediate 0x01, .unsupportedAddressingMode .ASL (.immediate 0x01)),
     (.ADC, .implied, .unsupportedAddressingMode .ADC .implied),
     (.LDA, .immediate 0x01, .notYetImplemented .LDA), (.LDA, .relative 0x01, .notYetImplemented .LDA)].all
      (fun r : Mnemonic × AddressMode × BlockError =>
        nextOf (execute activeConfig r.1 r.2.1 (errState [])) = some { errState [] with fault := some r.2.2 }) =
      true := by decide

/-- V-ERR8 to V-ERR10: a step records the error and changes nothing else, with these reads. -/
theorem test_step_errors :
    [([0xEA], .notYetImplemented .NOP, 1), ([0x9D, 0x00, 0x20], .notYetImplemented .STA, 3),
     ([0x03], .illegalOpcode 0x03, 1)].all
      (fun r : List Byte × BlockError × Nat =>
        nextOf (step (errState [(0x0300, r.1)])) = some { errState [(0x0300, r.1)] with fault := some r.2.1 } &&
        (stepAccesses activeConfig (errState [(0x0300, r.1)])).length == r.2.2) = true := by decide

/-- V-ERR11: no second step, and no access. -/
theorem test_no_step_after_error :
    step { errState [] with fault := some (.illegalOpcode 0x03) } = .fault (.stopped (.illegalOpcode 0x03)) ∧
    stepAccesses activeConfig { errState [] with fault := some (.illegalOpcode 0x03) } = [] := ⟨rfl, rfl⟩

/-- Each meaning in a list records NotYetImplemented of its mnemonic and changes nothing else. -/
def allRaise (l : List (Instr × Mnemonic)) : Bool :=
  l.all (fun q => nextOf (exec q.1 (errState [])) = some { errState [] with fault := some (.notYetImplemented q.2) })

/-- 42_unimplemented.md, every rule. -/
theorem test_unimplemented_raise :
    allRaise (branchForms 0x10) = true ∧ allRaise (loadStoreForms 0x10 0x1234) = true ∧
    allRaise (arithmeticCompareForms 0x10 0x1234) = true ∧ allRaise (shiftRotateForms 0x10 0x1234) = true ∧
    allRaise (controlForms 0x1234) = true ∧ allRaise (flagSetForms ++ transferStackForms) = true := by
  refine ⟨?_, ?_, ?_, ?_, ?_, ?_⟩ <;> decide

/-- The forms are the 151 instructions: 21 with an effect of their own and 130 that raise (30_encoding.md R102). -/
theorem test_forms_count :
    (adcForms 0 0).length + (andForms 0 0).length + (aslMemoryForms 0 0).length + 1 = 21 ∧
    (branchForms 0).length + (loadStoreForms 0 0).length + (arithmeticCompareForms 0 0).length +
      (shiftRotateForms 0 0).length + (controlForms 0).length + (flagSetForms ++ transferStackForms).length = 130 ∧
    illegalOpcodes.length = 105 := by decide

/-! ## From reset -/

/-- 70_reset_and_hazards.md R350, R352: nothing placed, the first step fetches 0x00 at 0x0000, which is BRK (log 9). -/
theorem test_reset_step :
    step State.reset = .next { State.reset with fault := some (.notYetImplemented .BRK) } := rfl

/-- P1, step 1, placed as a word of the opcode table. -/
theorem test_placed_word :
    nextMeets (step (State.reset.withFetchWord 16 0x0569)) (fun t => t.a = 0x05 ∧ t.p = 0 ∧ t.pc = 2 ∧ t.cyc = 2) =
      true := by decide

/-! ## Witnesses: for each statement with hypotheses, states and operands that meet them all together -/

/-- A running state at PC with memory there, X = Y = 0x10 and every flag set. -/
def runState (pc : Addr) (l : List (Addr × List Byte)) : State :=
  State.start 0x81 0x10 0x10 0xFD pc 0xFF (memOf l)

/-- A state that has recorded an error. -/
def stoppedState : State := { runState 0x0300 [] with fault := some (.illegalOpcode 0x02) }

/-- `ADC #$01` at the last address, its operand at 0x0000. -/
def adcAtTop : State := runState 0xFFFF [(0xFFFF, [0x69, 0x01])]

/-- `ASL $20F0,X` of the byte 0x80 at 0x2100, a page crossed; the byte becomes 0x00. -/
def aslCrossed : State := runState 0x0300 [(0x0300, [0x1E, 0xF0, 0x20]), (0x2100, [0x80])]

theorem witness_FlagGetSetClear : ∃ (f g : Flag) (n m : Nat), f ≠ g ∧ n < 8 ∧ n = f.bit ∧ m < 8 ∧ m ≠ f.bit :=
  ⟨.N, .C, 7, 0, by decide⟩

theorem witness_SetNZFromResult :
    ∃ (cfg : Config) (val : Byte) (s t : State), adc cfg val s = .ok t :=
  ⟨activeConfig, 0x80, adcAtTop, _, rfl⟩

theorem witness_PointerLowThenHighByte :
    ∃ (mode : AddressMode) (x : Byte) (p : Addr), pointerAddr mode x = some p ∧ p = 0x00FF :=
  ⟨.preIndexedIndirectX 0xF0, 0x0F, 0x00FF, by decide⟩

theorem witness_UndefinedModesRaise :
    (∃ (m : Mnemonic) (s : State), m ∈ implemented ∧ s.fault = none) ∧
    (∃ (s : State) (i : Instr) (b : Byte), s.fault = none ∧ fetch s.mem s.pc = .ok i ∧ i.mode = .relative b) :=
  ⟨⟨.ASL, State.reset, by decide⟩, runState 0xFFFF [(0xFFFF, [0xD0, 0xFE])], .bneRelative 0xFE, 0xFE, rfl, rfl, rfl⟩

theorem witness_OperandValueIsByteAtAddress :
    (∃ (m : Mnemonic) (mode : AddressMode) (b : Byte), mode = .immediate b ∧ m = .ADC) ∧
    (∃ (m : Mnemonic) (mode : AddressMode) (x y : Byte) (mem : Memory) (ea : Addr) (extra : Nat),
      resolveAddress m mode x y mem = .ok (ea, extra) ∧ extra = 1) :=
  ⟨⟨.ADC, .immediate 0xFF, 0xFF, rfl, rfl⟩,
    .ADC, .postIndexedIndirectY 0xFF, 0, 0x01, memOf [(0xFF, [0xFF, 0xFF])], 0x0000, 1, rfl, rfl⟩

theorem witness_CanonicalMemoryIsItsBytes :
    ∃ m m' : Memory, m.wf ∧ m'.wf ∧ (∀ addr, m.read addr = m'.read addr) ∧ m ≠ [] :=
  ⟨memOf [(0xFFFF, [1]), (0x0000, [2])], memOf [(0x0000, [2]), (0xFFFF, [1])], by decide, by decide,
    fun _ => rfl, by decide⟩

theorem witness_ConstructionState : ∃ s, s = State.reset := ⟨_, rfl⟩

theorem witness_StepKeepsMemoryCanonical :
    ∃ s t, Inv s ∧ step s = .next t ∧ t.mem ≠ s.mem := by
  obtain ⟨t, h, hq⟩ := next_of_meets (o := step aslCrossed) (q := fun t => t.mem ≠ aslCrossed.mem) (by decide)
  exact ⟨aslCrossed, t, (by decide : aslCrossed.mem.wf), h, by simpa using hq⟩

theorem witness_AdcAddsWithCarry :
    ∃ (v : Byte) (w : Addr) (i : Instr) (s : State), i ∈ adcForms v w ∧ s.fault = none ∧ i = .adcAbsoluteX 0xFFFF :=
  ⟨0xFF, 0xFFFF, .adcAbsoluteX 0xFFFF, adcAtTop, by decide⟩

theorem witness_DecimalAdcParameter :
    ∃ (cfg : Config) (mode : AddressMode) (s s' : State) (k : ExecutionMetrics) (val : Byte) (extra : Nat),
      s.fault = none ∧ s'.fault = none ∧ metricsOf cfg .ADC mode.variant = some k ∧
      resolveValue .ADC mode s.x s.y s.mem = .ok (val, extra) ∧
      resolveValue .ADC mode s'.x s'.y s'.mem = .ok (val, extra) ∧
      getFlag .D s.p = true ∧ getFlag .D s'.p = false :=
  ⟨activeConfig, .immediate 0x99, adcAtTop, State.reset, _, 0x99, 0, rfl, rfl, rfl, rfl, rfl, rfl, rfl⟩

theorem witness_AndMasksTheAccumulator :
    ∃ (v : Byte) (w : Addr) (i : Instr) (s : State), i ∈ andForms v w ∧ s.fault = none ∧
      i = .andPostIndexedIndirectY 0xFF :=
  ⟨0xFF, 0xFFFF, .andPostIndexedIndirectY 0xFF, adcAtTop, by decide⟩

theorem witness_AslShiftsTheAccumulator : ∃ s : State, s.fault = none ∧ s.a = 0x81 := ⟨adcAtTop, rfl, rfl⟩

theorem witness_AslShiftsMemory :
    ∃ (v : Byte) (w : Addr) (i : Instr) (s : State), i ∈ aslMemoryForms v w ∧ s.fault = none ∧
      i = .aslAbsoluteX 0x20F0 :=
  ⟨0, 0x20F0, .aslAbsoluteX 0x20F0, aslCrossed, by decide⟩

theorem witness_AslCarryParameter :
    ∃ (cfg : Config) (s : State) (k k' : ExecutionMetrics) (mode : AddressMode) (ea : Addr) (extra : Nat),
      s.fault = none ∧ cfg.aslCarry = .asWritten ∧ metricsOf cfg .ASL .implied = some k ∧ mode ≠ .implied ∧
      metricsOf cfg .ASL mode.variant = some k' ∧ resolveAddress .ASL mode s.x s.y s.mem = .ok (ea, extra) :=
  ⟨{ activeConfig with aslCarry := .asWritten }, aslCrossed, _, _, .absoluteX 0x20F0, 0x2100, 1,
    rfl, rfl, rfl, nofun, rfl, rfl⟩

theorem witness_BranchesRaiseNotYetImplemented :
    ∃ (v : Byte) (q : Instr × Mnemonic) (s : State), q ∈ branchForms v ∧ s.fault = none :=
  ⟨0xFE, (.bvsRelative 0xFE, .BVS), adcAtTop, by decide⟩

theorem witness_LoadsAndStoresRaiseNotYetImplemented :
    ∃ (v : Byte) (w : Addr) (q : Instr × Mnemonic) (s : State), q ∈ loadStoreForms v w ∧ s.fault = none :=
  ⟨0x10, 0xFFFF, (.styAbsolute 0xFFFF, .STY), adcAtTop, by decide⟩

theorem witness_ArithmeticAndComparesRaiseNotYetImplemented :
    ∃ (v : Byte) (w : Addr) (q : Instr × Mnemonic) (s : State), q ∈ arithmeticCompareForms v w ∧ s.fault = none :=
  ⟨0x10, 0, (.sbcPostIndexedIndirectY 0x10, .SBC), adcAtTop, by decide⟩

theorem witness_ShiftsAndRotatesRaiseNotYetImplemented :
    ∃ (v : Byte) (w : Addr) (q : Instr × Mnemonic) (s : State), q ∈ shiftRotateForms v w ∧ s.fault = none :=
  ⟨0, 0, (.rorImplied, .ROR), adcAtTop, by decide⟩

theorem witness_ControlRaisesNotYetImplemented :
    ∃ (w : Addr) (q : Instr × Mnemonic) (s : State), q ∈ controlForms w ∧ s.fault = none :=
  ⟨0x2000, (.jmpIndirect 0x2000, .JMP), adcAtTop, by decide⟩

theorem witness_FlagsTransfersStackRaiseNotYetImplemented :
    ∃ (q : Instr × Mnemonic) (s : State), q ∈ flagSetForms ++ transferStackForms ∧ s.fault = none :=
  ⟨(.tyaImplied, .TYA), adcAtTop, by decide⟩

theorem witness_NotYetImplementedRaised :
    (∃ (m : Mnemonic) (s : State), s.fault = none ∧ m ∉ implemented) ∧
    (∃ (cfg : Config) (m : Mnemonic) (mode : AddressMode) (s t : State), s.fault = none ∧ m ∈ implemented ∧
      execute cfg m mode s = .next t) ∧
    (∃ (s : State) (m : Mnemonic), s.fault = none ∧ opcodeMnemonic (s.mem.read s.pc) = some m ∧ m ∉ implemented) :=
  ⟨⟨.BRK, State.reset, by decide⟩, ⟨activeConfig, .ADC, .immediate 0x01, adcAtTop, _, rfl, by decide, rfl⟩,
    State.reset, .BRK, by decide⟩

theorem witness_UnsupportedModeRaised :
    (∃ (cfg : Config) (m : Mnemonic) (mode : AddressMode) (s : State), s.fault = none ∧ m ∈ implemented ∧
      metricsOf cfg m mode.variant = none) ∧
    (∃ (m : Mnemonic) (mode : AddressMode) (s : State), s.fault = none ∧ m ∈ implemented ∧
      ∃ b, mode = .zeroPageY b ∨ mode = .relative b ∨ (m = .ASL ∧ mode = .immediate b)) ∧
    (∃ s t : State, step s = .next t) :=
  ⟨⟨activeConfig, .AND, .indirect 0x2000, State.reset, by decide⟩,
    ⟨.ASL, .immediate 0x01, State.reset, rfl, by decide, 0x01, .inr (.inr ⟨rfl, rfl⟩)⟩, adcAtTop, _, rfl⟩

theorem witness_ErrorWritesOnlyFault :
    ∃ (cfg : Config) (s t u : State) (m : Mnemonic) (mode : AddressMode),
      execute cfg m mode s = .next t ∧ t.fault ≠ none ∧ stepWith cfg s = .next u ∧ u.fault ≠ none :=
  ⟨activeConfig, State.reset, _, _, .ADC, .zeroPageY 0x10, rfl, nofun, rfl, nofun⟩

theorem witness_NoStepAfterAnError : ∃ s : State, s.fault ≠ none := ⟨stoppedState, nofun⟩

theorem witness_RunStopsAtTheFirstError :
    (∃ (k j : Nat) (s t : State) (e : BlockError), Sys2Proof.core.run k s = .next t ∧ t.fault = some e ∧ k < j) ∧
    (∃ (k j : Nat) (s : State), EndsWell k s ∧ j ≤ k ∧ 0 < j) :=
  ⟨⟨1, 2, State.reset, _, _, rfl, rfl, by decide⟩, 1, 1, adcAtTop, ⟨_, rfl, rfl⟩, by decide⟩

theorem witness_IllegalOpcodesRaise :
    ∃ (op : Byte) (s : State), op ∈ illegalOpcodes ∧ s.fault = none ∧ s.mem.read s.pc = op :=
  ⟨0xFF, runState 0xFFFF [(0xFFFF, [0xFF])], by decide⟩

theorem witness_DecodeOfEncode : ∃ i : Instr, i.wf = true ∧ i = .jmpIndirect 0xFFFF :=
  ⟨.jmpIndirect 0xFFFF, by decide⟩

theorem witness_EncodeOfDecode :
    ∃ (bytes rest : List Byte) (i : Instr), decode bytes = .ok (i, rest) ∧ rest ≠ [] :=
  ⟨[0x0E, 0xFF, 0xFF, 0x02], [0x02], .aslAbsolute 0xFFFF, rfl, by decide⟩

theorem witness_OpcodeIdentifiesThePair : ∃ i j : Instr, i.opcode = j.opcode ∧ i ≠ j :=
  ⟨.adcImmediate 0x00, .adcImmediate 0xFF, by decide⟩

theorem witness_StepRunsTheDecodedInstruction :
    ∃ (s : State) (i : Instr) (rest : List Byte), s.fault = none ∧
      decode [s.mem.read s.pc, s.mem.read (s.pc + 1), s.mem.read (s.pc + 2)] = .ok (i, rest) :=
  ⟨adcAtTop, .adcImmediate 0x01, [0x00], rfl, rfl⟩

theorem witness_StepRunsTheEncodedBytes :
    ∃ (s : State) (i : Instr), s.fault = none ∧
      (∀ n b, (encode i)[n]? = some b → s.mem.read (s.pc + BitVec.ofNat 16 n) = b) := by
  refine ⟨adcAtTop, .adcImmediate 0x01, rfl, fun n b h => ?_⟩
  match n, h with
  | 0, h => exact (Option.some.inj h.symm).symm
  | 1, h => exact (Option.some.inj h.symm).symm

theorem witness_PlacedWordRuns :
    ∃ (s : State) (nbits w : Nat) (i : Instr), s.fault = none ∧ decodeTableWord nbits w = some i ∧
      s.pc = 0xFFFF :=
  ⟨adcAtTop, 24, 0x12346D, .adcAbsolute 0x1234, rfl, by decide, rfl⟩

theorem witness_IndexRegistersAreOnlyRead :
    (∃ (cfg : Config) (s t u : State) (m : Mnemonic) (mode : AddressMode),
      execute cfg m mode s = .next t ∧ stepWith cfg s = .next u) ∧
    (∃ mode : AddressMode, mode.variant ∉ [Variant.zeroPageX, .absoluteX, .preIndexedIndirectX] ∧
      mode.variant ∉ [Variant.absoluteY, .postIndexedIndirectY]) :=
  ⟨⟨activeConfig, adcAtTop, _, _, .AND, .absoluteY 0xFFFF, rfl, rfl⟩, .zeroPage 0xFF, by decide⟩

theorem witness_StackPointerIsUnused :
    ∃ (cfg : Config) (s t u : State) (m : Mnemonic) (mode : AddressMode),
      stepWith cfg s = .next t ∧ execute cfg m mode s = .next u ∧ s.sp = 0xFD :=
  ⟨activeConfig, adcAtTop, _, _, .ASL, .implied, rfl, rfl, rfl⟩

theorem witness_StatusControlBitsNeverChange :
    ∃ (cfg : Config) (s t : State), stepWith cfg s = .next t ∧ t.p ≠ s.p :=
  ⟨activeConfig, adcAtTop, _, rfl, by decide⟩

theorem witness_WritersOfTheFlags :
    (∃ (s t : State) (i : Instr), fetch s.mem s.pc = .ok i ∧ step s = .next t ∧
      getFlag .V t.p ≠ getFlag .V s.p ∧ getFlag .C t.p ≠ getFlag .C s.p ∧ t.p ≠ s.p) ∧
    (∃ (s t : State), fetch s.mem s.pc = .ok .aslImplied ∧ step s = .next t ∧ getFlag .C t.p ≠ getFlag .C s.p) :=
  ⟨⟨adcAtTop, _, .adcImmediate 0x01, rfl, rfl, by decide, by decide, by decide⟩,
    stateOf 0x80 0 0x0300 [(0x0300, [0x0A])], _, rfl, rfl, by decide⟩

theorem witness_WritersOfTheAccumulator :
    ∃ (s t : State) (i : Instr), fetch s.mem s.pc = .ok i ∧ step s = .next t ∧ t.a ≠ s.a :=
  ⟨stateOf 0x80 0 0x0300 [(0x0300, [0x0A])], _, .aslImplied, rfl, rfl, by decide⟩

theorem witness_PcAdvancesByTheLength :
    (∃ s t : State, step s = .next t ∧ t.fault = none ∧ t.pc = 0x0001) ∧
    (∃ s t : State, step s = .next t ∧ t.fault ≠ none) :=
  ⟨⟨adcAtTop, _, rfl, rfl, rfl⟩, State.reset, _, rfl, nofun⟩

theorem witness_CyclesPerStep :
    (∃ s t : State, step s = .next t ∧ t.fault = none ∧ t.cyc = 2) ∧
    (∃ s t : State, step s = .next t ∧ t.fault = none ∧ t.cyc = 7) ∧
    (∃ s t : State, step s = .next t ∧ t.fault ≠ none) :=
  ⟨⟨adcAtTop, _, rfl, rfl, rfl⟩, ⟨aslCrossed, _, rfl, rfl, rfl⟩, State.reset, _, rfl, nofun⟩

theorem witness_CostTableRows :
    (∃ r, r ∈ costs) ∧ (∃ (m : Mnemonic) (v : Variant), (metricsOf activeConfig m v).isSome = true) ∧
    (∃ i : Instr, i.mnemonic ∈ implemented) :=
  ⟨⟨(.ASL, .absoluteX, 0x1E, 3, 6), by decide⟩, ⟨.ADC, .immediate, by decide⟩, .aslImplied, by decide⟩

theorem witness_OnlyAslChangesMemory :
    ∃ (s t : State) (addr : Addr), step s = .next t ∧ t.mem.read addr ≠ s.mem.read addr := by
  obtain ⟨t, h, hq⟩ := next_of_meets (o := step aslCrossed)
    (q := fun t => t.mem.read 0x2100 ≠ aslCrossed.mem.read 0x2100) (by decide)
  exact ⟨aslCrossed, t, 0x2100, h, by simpa using hq⟩

theorem witness_StepReadsOnlyItsAccesses :
    ∃ (cfg : Config) (s : State) (mem' : Memory), AgreeOnReads (stepAccesses cfg s) s.mem mem' ∧ mem' ≠ s.mem := by
  refine ⟨activeConfig, aslCrossed, aslCrossed.mem.write 0x0000 0x77, ?_, by decide⟩
  have h : stepAccesses activeConfig aslCrossed =
      [.read 0x0300, .read 0x0301, .read 0x0302, .read 0x2100, .write 0x2100 0x00] := by decide
  rw [h]
  intro addr ha
  simp only [List.mem_cons, Access.read.injEq, reduceCtorEq, List.not_mem_nil, or_false] at ha
  obtain rfl | rfl | rfl | rfl := ha <;> decide

theorem witness_StepWritesItsAccesses :
    ∃ (cfg : Config) (s t : State), stepWith cfg s = .next t ∧ Access.write 0x2100 0x00 ∈ stepAccesses cfg s :=
  ⟨activeConfig, aslCrossed, _, rfl, by decide⟩

theorem witness_AccessesPerStep :
    (∃ (v : Byte) (w : Addr) (q : Instr × Nat) (s : State), q ∈ accessCounts v w ∧ s.fault = none ∧
      fetch s.mem s.pc = .ok q.1) ∧
    (∃ (i : Instr) (s : State), i.mnemonic ∉ implemented ∧ s.fault = none ∧ fetch s.mem s.pc = .ok i) :=
  ⟨⟨0, 0x20F0, (.aslAbsoluteX 0x20F0, 5), aslCrossed, by decide, rfl, rfl⟩,
    .jmpIndirect 0x2000, runState 0x0300 [(0x0300, [0x6C, 0x00, 0x20])], by decide, rfl, rfl⟩

theorem witness_CostTableDecidesDecoding :
    (∃ (cfg : Config) (s : State), s.fault = none ∧ decodeRow cfg (s.mem.read s.pc) = none) ∧
    (∃ (cfg : Config) (s : State) (r : DecodeRow), s.fault = none ∧ decodeRow cfg (s.mem.read s.pc) = some r ∧
      r.bytes = r.variant.length ∧ r.bytes = 1) ∧
    (∃ (cfg : Config) (s : State) (r : DecodeRow), s.fault = none ∧ decodeRow cfg (s.mem.read s.pc) = some r ∧
      r.bytes = r.variant.length ∧ r.bytes = 3) ∧
    (∃ (cfg : Config) (s : State) (r : DecodeRow), s.fault = none ∧ decodeRow cfg (s.mem.read s.pc) = some r ∧
      r.bytes = 2 ∧ r.variant.length = 3) ∧
    (∃ cfg : Config,
      ((cfg.costTable.map CostRow.decodeRow ++ cfg.recognisedTable).map DecodeRow.opcode).Nodup ∧
      cfg.costTable ≠ [] ∧ cfg.recognisedTable ≠ []) ∧
    (∃ (cfg : Config) (r : CostRow) (rest : List CostRow), cfg.costTable = r :: rest ∧ r.metrics.opcode = 0x02) :=
  ⟨⟨movedConfig, runState 0xFFFF [(0xFFFF, [0x69])], rfl, by decide⟩,
    ⟨activeConfig, State.reset, ⟨0x00, .BRK, .implied, 1⟩, rfl, by decide, rfl, rfl⟩,
    ⟨activeConfig, aslCrossed, ⟨0x1E, .ASL, .absoluteX, 3⟩, rfl, by decide, rfl, rfl⟩,
    ⟨{ activeConfig with costTable := [Machine.costRow .ADC .absolute 0x02 2 4] },
      runState 0xFFFF [(0xFFFF, [0x02, 0x34])], ⟨0x02, .ADC, .absolute, 2⟩, rfl, by decide, rfl, rfl⟩,
    ⟨{ activeConfig with costTable := [Machine.costRow .ADC .immediate 0x02 2 2], recognisedTable := recognisedRows0 },
      by decide, by decide, by decide⟩,
    movedConfig, _, _, rfl, rfl⟩

end Sys2Proof.Tests
end

section
/-! The parameters an implementation fixes (00_scope.md R6 to R8): `DecimalAdc`, `AslCarry` and `CostTable`. First the
effects of ADC and ASL and the laws of the table's decoder, for any parameters, then the three statements. -/

namespace Sys2Proof.Proofs

open Sys2Proof.Machine Sys2Proof.Forms

section Laws

variable {cfg : Config} {mode : AddressMode} {s : State}

/-! ## ADC -/

/-- P after ADC keeps B, D, I and bit 5 (40_adc_and.md R152). -/
theorem adcFlags_kept (acc val p : Byte) : FlagsKept [.N, .V, .Z, .C] p (adcFlags acc val p) :=
  ⟨fun f hf => by cases f <;> simp_all [getFlag_adcFlags], reservedBit_adcFlags acc val p⟩

/-- A state with ADC's result in A and its status byte in P shows the effect of R152. -/
theorem adcEffect_of_result {val : Byte} {t : State} (ha : t.a = adcResult s.a val (getFlag .C s.p))
    (hp : t.p = adcFlags s.a val s.p) : AdcEffect val s t := by
  unfold AdcEffect
  rw [ha, hp]
  refine ⟨adcResult_toNat _ _ _, ?carry, ?overflow, ?zero, ?negative, adcFlags_kept _ _ _⟩
  case carry => rw [getFlag_adcFlags]; exact adcCarry_eq _ _ _
  case overflow => rw [getFlag_adcFlags]; exact adcOverflow_eq _ _ _
  case zero => rw [getFlag_adcFlags]; rfl
  case negative => rw [getFlag_adcFlags]

/-- ADC neither reads nor writes P.D: setting it beforehand is setting it in the result. -/
theorem adcFlags_setFlag_D (acc val p : Byte) (d : Bool) :
    adcFlags acc val (setFlag .D d p) = setFlag .D d (adcFlags acc val p) :=
  status_ext (fun f => by cases f <;> simp [getFlag_adcFlags]) (by simp)

theorem execute_adc_refused {k : ExecutionMetrics} {val : Byte} {extra : Nat} (hf : s.fault = none)
    (hk : metricsOf cfg .ADC mode.variant = some k)
    (hv : resolveValue .ADC mode s.x s.y s.mem = .ok (val, extra))
    (hd : cfg.decimalAdc = .refuse ∧ getFlag .D s.p = true) :
    execute cfg .ADC mode s = .refused .decimalAdc := by
  simp only [execute, hf, semanticOf, hk, applySemantic, hv, adc, if_pos hd]

/-! ## ASL -/

/-- P after a shift, whose carry the parameter gives (41_asl.md R160, R161). -/
theorem aslFlags_effect (cfg : Config) (old p : Byte) :
    AslFlagsEffect cfg.aslCarry old (aslResult old) p (aslFlags cfg old p) := by
  refine ⟨aslResult_toNat old, ?zero, ?negative, fun hc => ?canonical, fun hc => ?asWritten,
    fun f hf => ?kept, reservedBit_aslFlags cfg old p⟩
  case zero => rw [getFlag_aslFlags]; rfl
  case negative => rw [getFlag_aslFlags]
  case canonical => simp [getFlag_aslFlags, hc]
  case asWritten => simp [getFlag_aslFlags, hc]
  case kept => cases f <;> simp_all [getFlag_aslFlags]

/-- ASL on memory leaves the shifted byte at the effective address (41_asl.md R161). -/
theorem aslM_read_same (cfg : Config) (ea : Addr) (s : State) :
    (aslM cfg ea s).mem.read ea = aslResult (s.mem.read ea) :=
  Memory.read_write_same _ _ _

theorem aslM_read_ne (cfg : Config) (s : State) {ea addr : Addr} (h : addr ≠ ea) :
    (aslM cfg ea s).mem.read addr = s.mem.read addr :=
  Memory.read_write_ne _ h _

/-! ## The decoder that the table gives -/

/-- The operand bytes of a built mode are the first of the two bytes it is built from, as many as its length asks
for (30_encoding.md R94, R95). -/
theorem buildMode_operandBytes (kind : Variant) (b1 b2 : Byte) :
    (buildMode kind b1 b2).operandBytes = [b1, b2].take (kind.length - 1) := by
  cases kind <;> simp [buildMode, AddressMode.operandBytes, Variant.length]

theorem variant_length_cases (kind : Variant) : kind.length = 1 ∨ kind.length = 2 ∨ kind.length = 3 := by
  cases kind <;> decide

/-- What the decoder reads where the opcode byte has a row: the mode is built from two bytes, each the one in memory
if the row's length reaches it (30_encoding.md R97). -/
theorem decodeAt_row {mem : Memory} {pc : Addr} {r : DecodeRow} (cyc : Cycles)
    (hr : decodeRow cfg (mem.read pc) = some r) :
    ∃ b1 b2, (2 ≤ r.bytes → b1 = mem.read (pc + 1)) ∧ (r.bytes = 3 → b2 = mem.read (pc + 2)) ∧
      decodeAt cfg mem pc cyc = .ok (r.mnemonic, buildMode r.variant b1 b2) := by
  simp only [decodeAt, hr]
  exact ⟨_, _, fun h => if_pos h, fun h => if_pos h, rfl⟩

theorem fetchAccesses_illegal {mem : Memory} {pc : Addr} (hr : decodeRow cfg (mem.read pc) = none) :
    fetchAccesses cfg mem pc = [.read pc] := by
  simp only [fetchAccesses, hr]

/-- The fetch reads the bytes of the instruction in order, where the row's length is that of a mode
(30_encoding.md R98). -/
theorem fetchAccesses_row {mem : Memory} {pc : Addr} {r : DecodeRow}
    (hr : decodeRow cfg (mem.read pc) = some r) (hl : r.bytes = r.variant.length) :
    fetchAccesses cfg mem pc = (List.range r.bytes).map (fun n => .read (pc + BitVec.ofNat 16 n)) := by
  simp only [fetchAccesses, hr]
  obtain h | h | h := variant_length_cases r.variant <;> simp [hl, h, List.range_succ]

theorem stepWith_illegal (hf : s.fault = none) (hr : decodeRow cfg (s.mem.read s.pc) = none) :
    stepWith cfg s = .next (s.raise (.illegalOpcode (s.mem.read s.pc))) := by
  simp only [stepWith, hf, decodeAt_illegal hr]

theorem stepAccesses_illegal (hf : s.fault = none) (hr : decodeRow cfg (s.mem.read s.pc) = none) :
    stepAccesses cfg s = [.read s.pc] := by
  simp only [stepAccesses, hf, decodeAt_illegal hr, fetchAccesses_illegal hr]

theorem stepWith_decoded {m : Mnemonic} (hf : s.fault = none)
    (hd : decodeAt cfg s.mem s.pc s.cyc = .ok (m, mode)) : stepWith cfg s = execute cfg m mode s := by
  simp only [stepWith, hf, hd]

theorem stepAccesses_decoded {m : Mnemonic} (hf : s.fault = none)
    (hd : decodeAt cfg s.mem s.pc s.cyc = .ok (m, mode)) :
    stepAccesses cfg s = fetchAccesses cfg s.mem s.pc ++ executeAccesses cfg m mode s := by
  simp only [stepAccesses, hf, hd]

/-- A step at a row of its mode's length runs the row's pair, with the operand bytes that follow the opcode. -/
theorem step_at_row {r : DecodeRow} (hf : s.fault = none) (hr : decodeRow cfg (s.mem.read s.pc) = some r)
    (hl : r.bytes = r.variant.length) :
    ∃ mode, mode.variant = r.variant ∧
      mode.operandBytes =
        (List.range (r.bytes - 1)).map (fun n => s.mem.read (s.pc + BitVec.ofNat 16 (n + 1))) ∧
      stepWith cfg s = execute cfg r.mnemonic mode s ∧
      stepAccesses cfg s =
        (List.range r.bytes).map (fun n => .read (s.pc + BitVec.ofNat 16 n)) ++
          executeAccesses cfg r.mnemonic mode s := by
  obtain ⟨b1, b2, h1, h2, hd⟩ := decodeAt_row s.cyc hr
  refine ⟨buildMode r.variant b1 b2, buildMode_variant _ _ _, ?operands, stepWith_decoded hf hd, ?accesses⟩
  case operands =>
    rw [buildMode_operandBytes]
    rw [hl] at h1 h2 ⊢
    obtain h | h | h := variant_length_cases r.variant <;> simp_all [List.range_succ]
  case accesses => rw [stepAccesses_decoded hf hd, fetchAccesses_row hr hl]

/-- Where no two rows share an opcode byte, every row is the one found at its own. -/
theorem decodeRow_of_nodup {r : DecodeRow}
    (hn : ((cfg.costTable.map CostRow.decodeRow ++ cfg.recognisedTable).map DecodeRow.opcode).Nodup)
    (hr : r ∈ cfg.costTable.map CostRow.decodeRow ++ cfg.recognisedTable) :
    decodeRow cfg r.opcode = some r := by
  cases hfound : decodeRow cfg r.opcode with
  | none => exact absurd (beq_self_eq_true r.opcode) (List.find?_eq_none.mp hfound r hr)
  | some r' =>
    have hop : r'.opcode = r.opcode := by simpa using List.find?_some hfound
    rw [List.inj_on_of_nodup_map hn (List.mem_of_find?_eq_some hfound) hr hop]

theorem decodeRow_first {r : CostRow} {rest : List CostRow} (h : cfg.costTable = r :: rest) :
    decodeRow cfg r.metrics.opcode = some r.decodeRow := by
  simp [decodeRow, h, CostRow.decodeRow]

/-- A change of the cost rows that keeps all the decoder sees of them, which is all but their cycles, changes no
decoding. -/
theorem decodeRow_map_costTable (cfg : Config) {change : CostRow → CostRow}
    (h : ∀ r, (change r).decodeRow = r.decodeRow) (op : Byte) :
    decodeRow { cfg with costTable := cfg.costTable.map change } op = decodeRow cfg op := by
  simp only [decodeRow, List.map_map, Function.comp_def, h]

end Laws

/-! ## The statements -/

/-- Settles O18: `Refuse` and `Binary` part only at the guard on P.D, and ADC itself does not look at P.D. -/
theorem decimalAdcParameter : Obligations.DecimalAdcParameter := by
  intro cfg mode s k val extra hf hk hv
  have hrow : ∀ d, metricsOf { cfg with decimalAdc := d } .ADC mode.variant = some k := fun _ => hk
  refine ⟨fun hD => execute_adc_refused hf (hrow .refuse) hv ⟨rfl, hD⟩, fun hD => ?clear, fun d => ?binary⟩
  case clear =>
    rw [execute_adc hf (hrow .refuse) hv (by simp [hD]), execute_adc hf (hrow .binary) hv nofun]
  case binary =>
    refine ⟨_, execute_adc hf (hrow .binary) hv nofun, adcEffect_of_result rfl rfl, ?_⟩
    rw [execute_adc (s := { s with p := setFlag .D d s.p }) hf (hrow .binary) hv nofun]
    simp [State.setA, State.setP, State.retire, adcFlags_setFlag_D]

/-- Settles O22: both shapes complete with the shift's result and `aslFlags`, which depends on the parameter in C
alone. -/
theorem aslCarryParameter : Obligations.AslCarryParameter := by
  intro cfg s hf
  refine ⟨fun k hk => ?accumulator, fun mode k ea extra hm hk ha => ?memory⟩
  case accumulator =>
    exact ⟨_, execute_aslA hf hk, aslFlags_effect cfg s.a s.p, ⟨rfl, rfl, rfl, hf⟩, ⟨rfl, rfl⟩, fun _ => rfl⟩
  case memory =>
    refine ⟨_, execute_aslM hf hk hm ha, ?_, fun addr hne => aslM_read_ne cfg s hne, rfl,
      ⟨rfl, rfl, rfl, hf⟩, ⟨rfl, rfl⟩⟩
    rw [State.retire_mem, aslM_read_same]
    exact aslFlags_effect cfg _ _

/-- Settles O56: clause by clause, from the laws of the table's decoder. -/
theorem costTableDecidesDecoding : Obligations.CostTableDecidesDecoding := by
  refine ⟨fun cfg s hf hr => ⟨stepWith_illegal hf hr, stepAccesses_illegal hf hr⟩,
    fun cfg s r hf hr hl => step_at_row hf hr hl, fun cfg s r hf hr => ?anyLength,
    fun cfg hn => ⟨fun r hr => ?costRow, fun r hr => ?recognisedRow⟩, fun cfg r rest h => decodeRow_first h,
    fun cfg cycles op => decodeRow_map_costTable cfg (fun _ => by rfl) op⟩
  case anyLength =>
    obtain ⟨b1, b2, h1, h2, hd⟩ := decodeAt_row s.cyc hr
    exact ⟨b1, b2, h1, h2, stepWith_decoded hf hd⟩
  case costRow => exact decodeRow_of_nodup hn (List.mem_append_left _ (List.mem_map_of_mem hr))
  case recognisedRow => exact decodeRow_of_nodup hn (List.mem_append_right _ hr)

end Sys2Proof.Proofs
end

section
/-! The registers, the status byte and the cycle counter over a step (10_state.md): what each completed instruction
does to a register of the block and what it leaves alone, said once and for any parameters, then the statements of
that family. -/

namespace Sys2Proof.Proofs

open Sys2Proof.Machine Sys2Proof.Forms

section Laws

variable {cfg : Config} {m : Mnemonic} {mode : AddressMode} {s t : State}

/-! ## A step raises or completes -/

theorem raised_eq (h : Raised cfg m mode s t) : ∃ e, t = s.raise e := by
  obtain ⟨-, rfl⟩ | ⟨-, rfl⟩ := h <;> exact ⟨_, rfl⟩

theorem execute_raises_or_completes (h : execute cfg m mode s = .next t) :
    (∃ e, t = s.raise e) ∨ Completed cfg m mode s t :=
  (execute_next h).2.imp_left raised_eq

theorem stepWith_raises_or_completes (h : stepWith cfg s = .next t) :
    (∃ e, t = s.raise e) ∨ ∃ m mode, Completed cfg m mode s t := by
  obtain ⟨-, ⟨-, rfl⟩ | ⟨m, mode, -, h | h⟩⟩ := stepWith_next h
  · exact .inl ⟨_, rfl⟩
  · exact .inl (raised_eq h)
  · exact .inr ⟨m, mode, h⟩

/-- A step starts with FAULT None, and ends with an error recorded and nothing else changed, or completes the
instruction fetched. -/
theorem step_raises_or_completes (h : step s = .next t) :
    s.fault = none ∧ ((∃ e, t = s.raise e) ∨
      ∃ i, fetch s.mem s.pc = .ok i ∧ Completed activeConfig i.mnemonic i.mode s t) := by
  obtain ⟨hf, ⟨-, rfl⟩ | ⟨i, hi, h | h⟩⟩ := step_next h
  · exact ⟨hf, .inl ⟨_, rfl⟩⟩
  · exact ⟨hf, .inl (raised_eq h)⟩
  · exact ⟨hf, .inr ⟨i, hi, h⟩⟩

/-- Where a step changes something that raising an error does not, the instruction at PC completed. -/
theorem completed_of_changed {α : Type} {i : Instr} (view : State → α) (hraise : ∀ e, view (s.raise e) = view s)
    (hi : fetch s.mem s.pc = .ok i) (h : step s = .next t) (hne : view t ≠ view s) :
    Completed activeConfig i.mnemonic i.mode s t := by
  obtain ⟨-, ⟨e, rfl⟩ | ⟨j, hj, hc⟩⟩ := step_raises_or_completes h
  · exact absurd (hraise e) hne
  · obtain rfl : i = j := Except.ok.inj (hi.symm.trans hj)
    exact hc

/-! ## X, Y and SP -/

theorem execute_registers (h : execute cfg m mode s = .next t) : t.x = s.x ∧ t.y = s.y ∧ t.sp = s.sp := by
  obtain ⟨e, rfl⟩ | hc := execute_raises_or_completes h
  · exact ⟨rfl, rfl, rfl⟩
  · exact hc.registers

theorem stepWith_registers (h : stepWith cfg s = .next t) : t.x = s.x ∧ t.y = s.y ∧ t.sp = s.sp := by
  obtain ⟨e, rfl⟩ | ⟨m, mode, hc⟩ := stepWith_raises_or_completes h
  · exact ⟨rfl, rfl, rfl⟩
  · exact hc.registers

/-- Only the modes of 10_state.md R22 resolve through X. -/
theorem resolveAddress_x (m : Mnemonic) (x x' y : Byte) (mem : Memory)
    (h : mode.variant ∉ [.zeroPageX, .absoluteX, .preIndexedIndirectX]) :
    resolveAddress m mode x y mem = resolveAddress m mode x' y mem := by
  cases mode
  case zeroPageX | absoluteX | preIndexedIndirectX => exact absurd (by simp [AddressMode.variant]) h
  all_goals rfl

/-- Only the modes of 10_state.md R23 resolve through Y. -/
theorem resolveAddress_y (m : Mnemonic) (x y y' : Byte) (mem : Memory)
    (h : mode.variant ∉ [.absoluteY, .postIndexedIndirectY]) :
    resolveAddress m mode x y mem = resolveAddress m mode x y' mem := by
  cases mode
  case absoluteY | postIndexedIndirectY => exact absurd (by simp [AddressMode.variant]) h
  all_goals rfl

/-- The operand value depends on X and Y through the effective address alone (20_memory.md R87). -/
theorem resolveValue_congr {x x' y y' : Byte} {mem : Memory}
    (h : resolveAddress m mode x y mem = resolveAddress m mode x' y' mem) :
    resolveValue m mode x y mem = resolveValue m mode x' y' mem := by
  cases mode <;> simp only [resolveValue, h]

/-- The state with another stack pointer. -/
def setSp (v : Byte) (s : State) : State := { s with sp := v }

@[simp] theorem setSp_x (v : Byte) (s : State) : (setSp v s).x = s.x := rfl
@[simp] theorem setSp_y (v : Byte) (s : State) : (setSp v s).y = s.y := rfl
@[simp] theorem setSp_pc (v : Byte) (s : State) : (setSp v s).pc = s.pc := rfl
@[simp] theorem setSp_p (v : Byte) (s : State) : (setSp v s).p = s.p := rfl
@[simp] theorem setSp_cyc (v : Byte) (s : State) : (setSp v s).cyc = s.cyc := rfl
@[simp] theorem setSp_fault (v : Byte) (s : State) : (setSp v s).fault = s.fault := rfl
@[simp] theorem setSp_mem (v : Byte) (s : State) : (setSp v s).mem = s.mem := rfl

/-- An outcome with its next state changed. -/
def mapNext (f : State → State) : StepOutcome → StepOutcome
  | .next t => .next (f t)
  | .fault r => .fault r
  | .refused r => .refused r

/-- What the engine's steps 3 and 4 end in, with the state changed. -/
def mapDone (f : State → State) : Applied → Applied
  | .done extra t => .done extra (f t)
  | .raised e => .raised e
  | .refused r => .refused r

/-- A semantic function neither reads nor writes SP. -/
def SpUnused (v : Byte) : SemanticFunction → Prop
  | .onValue g => ∀ val s, g val (setSp v s) = (g val s).map (setSp v)
  | .readModifyWrite onA onMemory =>
    (∀ s, onA (setSp v s) = setSp v (onA s)) ∧ ∀ ea s, onMemory ea (setSp v s) = setSp v (onMemory ea s)

theorem adc_setSp (cfg : Config) (v val : Byte) (s : State) :
    adc cfg val (setSp v s) = (adc cfg val s).map (setSp v) := by
  unfold adc
  rw [setSp_p]
  split <;> rfl

theorem semanticOf_spUnused (v : Byte) {f : SemanticFunction} (h : semanticOf cfg m = some f) : SpUnused v f := by
  obtain ⟨-, hs⟩ | ⟨-, hs⟩ | ⟨-, hs⟩ | ⟨-, -, -, hs⟩ := semanticOf_cases cfg m <;> rw [hs] at h <;> cases h
  · exact adc_setSp cfg v
  · exact fun _ _ => rfl
  · exact ⟨fun _ => rfl, fun _ _ => rfl⟩

theorem applySemantic_setSp {v : Byte} {f : SemanticFunction} (h : SpUnused v f) (m : Mnemonic) (mode : AddressMode)
    (s : State) : applySemantic f m mode (setSp v s) = mapDone (setSp v) (applySemantic f m mode s) := by
  cases f with
  | onValue g =>
    simp only [applySemantic, setSp_x, setSp_y, setSp_mem, h _ s]
    cases resolveValue m mode s.x s.y s.mem with
    | error e => rfl
    | ok r => cases hg : g r.1 s <;> simp only [hg] <;> rfl
  | readModifyWrite onA onMemory =>
    obtain ⟨hA, hMemory⟩ := h
    simp only [applySemantic, setSp_x, setSp_y, setSp_mem, hA s, hMemory _ s]
    split
    · rfl
    · cases resolveAddress m mode s.x s.y s.mem <;> rfl

theorem execute_setSp (cfg : Config) (v : Byte) (m : Mnemonic) (mode : AddressMode) (s : State) :
    execute cfg m mode (setSp v s) = mapNext (setSp v) (execute cfg m mode s) := by
  simp only [execute, setSp_fault]
  cases s.fault with
  | some e => rfl
  | none =>
    cases hf : semanticOf cfg m with
    | none => rfl
    | some f =>
      cases metricsOf cfg m mode.variant with
      | none => rfl
      | some k =>
        simp only [applySemantic_setSp (semanticOf_spUnused v hf)]
        cases applySemantic f m mode s <;> rfl

/-- A step from a state with another SP is the same step with that SP in the result (10_state.md R24). -/
theorem stepWith_setSp (cfg : Config) (v : Byte) (s : State) :
    stepWith cfg (setSp v s) = mapNext (setSp v) (stepWith cfg s) := by
  simp only [stepWith, setSp_fault, setSp_mem, setSp_pc, setSp_cyc, execute_setSp]
  cases s.fault with
  | some e => rfl
  | none => cases decodeAt cfg s.mem s.pc s.cyc <;> rfl

/-! ## P and A -/

theorem flagsKept_refl (written : List Flag) (p : Byte) : FlagsKept written p p := ⟨fun _ _ => rfl, rfl⟩

theorem flagsKept_mono {l l' : List Flag} {p q : Byte} (h : FlagsKept l p q) (hl : l ⊆ l') : FlagsKept l' p q :=
  ⟨fun f hf => h.1 f (fun hm => hf (hl hm)), h.2⟩

/-- P after setNZ keeps every flag but N and Z, and bit 5 (40_adc_and.md R150). -/
theorem setNZ_kept (r p : Byte) : FlagsKept [.N, .Z] p (setNZ r p) :=
  ⟨fun f hf => by cases f <;> simp_all, reservedBit_setNZ r p⟩

/-- The flags that each completed instruction may change. -/
theorem completed_flags (h : Completed cfg m mode s t) :
    (m = .ADC ∧ FlagsKept [.N, .V, .Z, .C] s.p t.p) ∨ (m = .AND ∧ FlagsKept [.N, .Z] s.p t.p) ∨
    (m = .ASL ∧ FlagsKept [.N, .Z, .C] s.p t.p) := by
  have asl (old : Byte) : FlagsKept [.N, .Z, .C] s.p (aslFlags cfg old s.p) := by
    obtain ⟨-, -, -, -, -, hk⟩ := aslFlags_effect cfg old s.p
    exact hk
  obtain ⟨k, -, ⟨_, _, hm, -, -, rfl⟩ | ⟨_, _, hm, -, rfl⟩ | ⟨hm, -, rfl⟩ | ⟨_, _, hm, -, -, rfl⟩⟩ := h
  · exact .inl ⟨hm, adcFlags_kept _ _ _⟩
  · exact .inr (.inl ⟨hm, setNZ_kept _ _⟩)
  · exact .inr (.inr ⟨hm, asl _⟩)
  · exact .inr (.inr ⟨hm, asl _⟩)

/-- No completed instruction changes B, D, I or bit 5. -/
theorem completed_controlBits (h : Completed cfg m mode s t) : FlagsKept [.N, .V, .Z, .C] s.p t.p := by
  obtain ⟨-, hk⟩ | ⟨-, hk⟩ | ⟨-, hk⟩ := completed_flags h
  · exact hk
  · exact flagsKept_mono hk (by decide)
  · exact flagsKept_mono hk (by decide)

theorem completed_implemented (h : Completed cfg m mode s t) : m ∈ implemented := by
  obtain ⟨rfl, -⟩ | ⟨rfl, -⟩ | ⟨rfl, -⟩ := completed_flags h <;> decide

theorem completed_writes_V (h : Completed cfg m mode s t) (hne : getFlag .V t.p ≠ getFlag .V s.p) : m = .ADC := by
  obtain ⟨hm, -⟩ | ⟨-, hk⟩ | ⟨-, hk⟩ := completed_flags h
  · exact hm
  · exact absurd (hk.1 .V (by decide)) hne
  · exact absurd (hk.1 .V (by decide)) hne

theorem completed_writes_C (h : Completed cfg m mode s t) (hne : getFlag .C t.p ≠ getFlag .C s.p) :
    m = .ADC ∨ m = .ASL := by
  obtain ⟨hm, -⟩ | ⟨-, hk⟩ | ⟨hm, -⟩ := completed_flags h
  · exact .inl hm
  · exact absurd (hk.1 .C (by decide)) hne
  · exact .inr hm

theorem completed_writes_A (h : Completed cfg m mode s t) (hne : t.a ≠ s.a) :
    m = .ADC ∨ m = .AND ∨ (m = .ASL ∧ mode = .implied) := by
  obtain ⟨k, -, ⟨_, _, hm, -⟩ | ⟨_, _, hm, -⟩ | ⟨hm, hmode, -⟩ | ⟨_, _, -, -, -, rfl⟩⟩ := h
  · exact .inl hm
  · exact .inr (.inl hm)
  · exact .inr (.inr ⟨hm, hmode⟩)
  · exact absurd rfl hne

/-- ASL of the accumulator is the one instruction of its pair. -/
theorem eq_aslImplied {i : Instr} (hm : i.mnemonic = .ASL) (hmode : i.mode = .implied) : i = .aslImplied := by
  cases i
  case aslImplied => rfl
  case aslZeroPage | aslZeroPageX | aslAbsolute | aslAbsoluteX => cases hmode
  all_goals cases hm

/-! ## PC and CYC -/

/-- Steps 5 and 6 of the engine, for every completed instruction (30_encoding.md R106). -/
theorem completed_advanced (h : Completed cfg m mode s t) :
    ∃ k extra, metricsOf cfg m mode.variant = some k ∧ extra ≤ 1 ∧ Advanced k extra s t := by
  obtain ⟨k, hk, ⟨_, extra, -, hv, -, rfl⟩ | ⟨_, extra, -, hv, rfl⟩ | ⟨-, -, rfl⟩ |
    ⟨_, extra, -, -, ha, rfl⟩⟩ := h
  · exact ⟨k, extra, hk, resolveValue_extra_le hv, rfl, rfl⟩
  · exact ⟨k, extra, hk, resolveValue_extra_le hv, rfl, rfl⟩
  · exact ⟨k, 0, hk, Nat.zero_le 1, rfl, rfl⟩
  · exact ⟨k, extra, hk, resolveAddress_extra_le ha, rfl, rfl⟩

/-- A row the lookup answers is a row of the table, with the variant asked for. -/
theorem metricsOf_row {v : Variant} {k : ExecutionMetrics} (h : metricsOf cfg m v = some k) :
    ∃ r ∈ cfg.costTable, r.variant = v ∧ r.metrics = k := by
  obtain ⟨r, hr, rfl⟩ := Option.map_eq_some_iff.mp h
  have hp := List.find?_some hr
  simp only [Bool.and_eq_true, beq_iff_eq] at hp
  exact ⟨r, List.mem_of_find?_eq_some hr, hp.2, rfl⟩

/-- Every row of R101 has the length of its variant (R94) and 2 to 6 base cycles. -/
theorem costTable_bounds :
    ∀ r ∈ costTable, r.metrics.bytes = r.variant.length ∧ 2 ≤ r.metrics.cycles ∧ r.metrics.cycles ≤ 6 := by
  decide

theorem metricsOf_active_bounds {v : Variant} {k : ExecutionMetrics} (h : metricsOf activeConfig m v = some k) :
    k.bytes = v.length ∧ 2 ≤ k.cycles ∧ k.cycles ≤ 6 := by
  obtain ⟨r, hr, rfl, rfl⟩ := metricsOf_row h
  exact costTable_bounds r hr

theorem encode_length (i : Instr) : (encode i).length = i.mode.variant.length := by
  simp only [encode, List.length_cons]
  cases i.mode <;> rfl

theorem completed_pc {i : Instr} (h : Completed activeConfig i.mnemonic i.mode s t) :
    t.pc = s.pc + BitVec.ofNat 16 (encode i).length := by
  obtain ⟨k, extra, hk, -, hpc, -⟩ := completed_advanced h
  rw [hpc, (metricsOf_active_bounds hk).1, encode_length]

theorem completed_cyc (h : Completed activeConfig m mode s t) :
    ∃ n, 2 ≤ n ∧ n ≤ 7 ∧ t.cyc.toNat = (s.cyc.toNat + n) % 2 ^ 64 := by
  obtain ⟨k, extra, hk, hextra, -, hcyc⟩ := completed_advanced h
  obtain ⟨-, hlow, hhigh⟩ := metricsOf_active_bounds hk
  refine ⟨k.cycles + extra, by omega, by omega, ?_⟩
  rw [hcyc, BitVec.toNat_add, BitVec.toNat_ofNat, Nat.add_mod_mod]

/-! ## The flags of P, one at a time -/

/-- Setting a flag, bit by bit (10_state.md R28). -/
theorem getLsbD_setFlag (f : Flag) (b : Bool) (p : Byte) {n : Nat} (hn : n < 8) :
    (setFlag f b p).getLsbD n = if n = f.bit then b else p.getLsbD n := by
  have hf : f.bit < 8 := by cases f <;> decide
  have hmask : (1#8 <<< f.bit).getLsbD n = decide (n = f.bit) := by
    rw [← BitVec.twoPow_eq, BitVec.getLsbD_twoPow]; simp [hf, eq_comm]
  unfold setFlag
  cases b with
  | true =>
    rw [if_pos rfl, BitVec.getLsbD_or, hmask]
    by_cases h : n = f.bit <;> simp [h]
  | false =>
    rw [if_neg (by decide), BitVec.getLsbD_and, BitVec.getLsbD_not, hmask]
    by_cases h : n = f.bit <;> simp [h, hn]

theorem setFlag_comm {f g : Flag} (h : f ≠ g) (b b' : Bool) (p : Byte) :
    setFlag f b (setFlag g b' p) = setFlag g b' (setFlag f b p) := by
  refine status_ext (fun r => ?_) (by simp)
  simp only [getFlag_setFlag]
  by_cases hf : r = f
  · subst hf; simp [h]
  · simp [hf]

end Laws

/-! ## The statements -/

/-- Settles O1: set writes the one bit of its mask, and two sets in either order leave the same flags. -/
theorem flagGetSetClear : Obligations.FlagGetSetClear := fun f _ b b' p =>
  ⟨rfl, fun _ hn => getLsbD_setFlag f b p hn, rfl, fun h => setFlag_comm h b b' p⟩

/-- Settles O2: each clause is the definition of the bit positions. -/
theorem flagBitLayout : Obligations.FlagBitLayout := fun _ => ⟨rfl, rfl, rfl, rfl, rfl, rfl, rfl, rfl⟩

/-- Settles O44: the writes from what a completed instruction leaves unchanged, the reads mode by mode. -/
theorem indexRegistersAreOnlyRead : Obligations.IndexRegistersAreOnlyRead := by
  refine ⟨fun cfg s t => ⟨fun m mode h => ?execute, fun h => ?step⟩,
    fun m mode x x' y y' mem => ⟨fun h => ?readsX, fun h => ?readsY⟩⟩
  case execute => obtain ⟨hx, hy, -⟩ := execute_registers h; exact ⟨hx, hy⟩
  case step => obtain ⟨hx, hy, -⟩ := stepWith_registers h; exact ⟨hx, hy⟩
  case readsX =>
    have ha := resolveAddress_x m x x' y mem h
    exact ⟨ha, resolveValue_congr ha⟩
  case readsY =>
    have ha := resolveAddress_y m x y y' mem h
    exact ⟨ha, resolveValue_congr ha⟩

/-- Settles O45: the engine commutes with setting SP, because its three semantic functions do. -/
theorem stackPointerIsUnused : Obligations.StackPointerIsUnused := by
  refine fun cfg s t v => ⟨fun h => ?step, fun m mode h => ?execute⟩
  case step =>
    obtain ⟨-, -, hsp⟩ := stepWith_registers h
    exact ⟨hsp, (stepWith_setSp cfg v s).trans (congrArg (mapNext (setSp v)) h)⟩
  case execute =>
    obtain ⟨-, -, hsp⟩ := execute_registers h
    exact ⟨hsp, (execute_setSp cfg v m mode s).trans (congrArg (mapNext (setSp v)) h)⟩

/-- Settles O46: an error leaves P alone, and a completed instruction changes at most N, V, Z and C. -/
theorem statusControlBitsNeverChange : Obligations.StatusControlBitsNeverChange := by
  intro cfg s t h
  obtain ⟨e, rfl⟩ | ⟨m, mode, hc⟩ := stepWith_raises_or_completes h
  · exact flagsKept_refl _ _
  · exact completed_controlBits hc

/-- Settles O47: a changed P means that the instruction at PC completed, and each one's flags are listed. -/
theorem writersOfTheFlags : Obligations.WritersOfTheFlags := by
  intro s t i hi h
  have completed (hne : t.p ≠ s.p) := completed_of_changed State.p (fun _ => rfl) hi h hne
  refine ⟨fun hV => completed_writes_V (completed ?_) hV, fun hC => completed_writes_C (completed ?_) hC,
    fun hne => completed_implemented (completed hne)⟩
  · exact fun hp => hV (congrArg (getFlag .V) hp)
  · exact fun hp => hC (congrArg (getFlag .C) hp)

/-- Settles O48: of the completed instructions, ASL on memory is the one that leaves A. -/
theorem writersOfTheAccumulator : Obligations.WritersOfTheAccumulator := by
  intro s t i hi h hne
  have hc := completed_of_changed State.a (fun _ => rfl) hi h hne
  exact (completed_writes_A hc hne).imp_right (Or.imp_right fun ⟨hm, hmode⟩ => eq_aslImplied hm hmode)

/-- Settles O49: the table's lengths are those of the variants, which are those of the encodings. -/
theorem pcAdvancesByTheLength : Obligations.PcAdvancesByTheLength := by
  intro s t h
  obtain ⟨hf, ⟨e, rfl⟩ | ⟨i, hi, hc⟩⟩ := step_raises_or_completes h
  · exact .inr ⟨nofun, rfl⟩
  · exact .inl ⟨hc.fault.trans hf, i, hi, completed_pc hc⟩

/-- Settles O50: 2 to 6 base cycles by the table, and at most one more for a crossed page. -/
theorem cyclesPerStep : Obligations.CyclesPerStep := by
  intro s t h
  obtain ⟨hf, ⟨e, rfl⟩ | ⟨i, -, hc⟩⟩ := step_raises_or_completes h
  · exact .inr ⟨nofun, rfl⟩
  · exact .inl ⟨hc.fault.trans hf, completed_cyc hc⟩

end Sys2Proof.Proofs
end

section
/-! Memory and addressing (20_memory.md): the effective address of each mode, memory as the bytes that were written to
it, and what a step changes in memory. -/

namespace Sys2Proof.Proofs

open Sys2Proof.Machine Sys2Proof.Safety Sys2Proof.Forms

section Laws

variable {cfg : Config} {m : Mnemonic} {mode : AddressMode} {s t : State}

/-! ## Sums and pointers -/

theorem addCheckPageCross_toNat (a : Addr) (d : Byte) :
    (addCheckPageCross a d).1.toNat = (a.toNat + d.toNat) % 65536 := by
  simp [addCheckPageCross_fst, BitVec.toNat_add]

theorem addCheckPageCross_crossed (a : Addr) (d : Byte) :
    (addCheckPageCross a d).2 = true ↔ hi (addCheckPageCross a d).1 ≠ hi a := by
  rw [addCheckPageCross_snd, addCheckPageCross_fst, bne_iff_ne]

/-- The high byte changes exactly when the low byte carries: an index is below 256, so it adds at most one page, and
from page 255 the sum wraps to page 0. -/
theorem hi_add_ne_iff (a : Addr) (d : Byte) :
    hi (addCheckPageCross a d).1 ≠ hi a ↔ 256 ≤ (lo a).toNat + d.toNat := by
  have ha := a.isLt
  have hd := d.isLt
  rw [ne_eq, ← BitVec.toNat_inj, hi_toNat, hi_toNat, lo_toNat, addCheckPageCross_toNat]
  omega

theorem read16_toNat (mem : Memory) (p : Addr) :
    (mem.read16 p).toNat = (mem.read (p + 1)).toNat * 256 + (mem.read p).toNat :=
  fromBytes_toNat _ _

theorem hi_read16 (mem : Memory) (p : Addr) : hi (mem.read16 p) = mem.read (p + 1) :=
  hi_fromBytes _ _

theorem pointerAccesses_of_pointerAddr {x : Byte} {p : Addr} (h : pointerAddr mode x = some p) :
    pointerAccesses mode x = [.read p, .read (p + 1)] := by
  simp only [pointerAccesses, h]

theorem resolveValue_of_resolveAddress {x y : Byte} {mem : Memory} {ea : Addr} {extra : Nat}
    (h : resolveAddress m mode x y mem = .ok (ea, extra)) :
    resolveValue m mode x y mem = .ok (mem.read ea, extra) := by
  cases mode
  case immediate => cases h
  all_goals simp only [resolveValue, h]

/-! ## Modes that are not defined -/

/-- No row of R101 has the mode ZeroPageY. -/
theorem costTable_no_zeroPageY : ∀ r ∈ costTable, r.variant ≠ .zeroPageY := by decide

theorem metricsOf_active_zeroPageY (m : Mnemonic) : metricsOf activeConfig m .zeroPageY = none := by
  cases h : metricsOf activeConfig m .zeroPageY with
  | none => rfl
  | some k =>
    obtain ⟨r, hr, hv, -⟩ := metricsOf_row h
    exact absurd hv (costTable_no_zeroPageY r hr)

theorem semanticOf_of_implemented (h : m ∈ implemented) : semanticOf cfg m ≠ none := by
  simp only [implemented, List.mem_cons, List.not_mem_nil, or_false] at h
  obtain rfl | rfl | rfl := h <;> nofun

theorem semanticOf_of_not_implemented (h : m ∉ implemented) : semanticOf cfg m = none := by
  obtain ⟨rfl, -⟩ | ⟨rfl, -⟩ | ⟨rfl, -⟩ | ⟨-, -, -, hs⟩ := semanticOf_cases cfg m
  · exact absurd (by decide) h
  · exact absurd (by decide) h
  · exact absurd (by decide) h
  · exact hs

/-- The instructions in mode Relative are the eight branches, which have no semantic function. -/
theorem not_implemented_of_relative {i : Instr} {b : Byte} (h : i.mode = .relative b) : i.mnemonic ∉ implemented := by
  cases i
  case bccRelative | bcsRelative | beqRelative | bmiRelative | bneRelative | bplRelative | bvcRelative |
    bvsRelative => simp [implemented, Instr.mnemonic]
  all_goals cases h

theorem step_not_implemented {i : Instr} (hf : s.fault = none) (hi : fetch s.mem s.pc = .ok i)
    (h : i.mnemonic ∉ implemented) : step s = .next (s.raise (.notYetImplemented i.mnemonic)) := by
  simp only [step, hf, hi, exec_eq_execute]
  exact execute_notYetImplemented hf (semanticOf_of_not_implemented h)

/-! ## Memory as its bytes -/

theorem readAt_of_not_listed {mem : Memory} {k : Nat} (h : ∀ c ∈ mem, c.1 ≠ k) : mem.readAt k = unlistedByte := by
  induction mem with
  | nil => rfl
  | cons c mem ih =>
    obtain ⟨hc, hmem⟩ := List.forall_mem_cons.mp h
    rw [Memory.readAt_cons, if_neg hc]
    exact ih hmem

/-- Where keys are strictly rising, each listed key reads as its byte. -/
theorem readAt_of_mem {mem : Memory} (hp : mem.Pairwise (fun c d => c.1 < d.1)) {c : Host.Cell} (hc : c ∈ mem) :
    mem.readAt c.1 = c.2 := by
  induction mem with
  | nil => cases hc
  | cons d mem ih =>
    obtain ⟨hlt, hp⟩ := List.pairwise_cons.mp hp
    rw [Memory.readAt_cons]
    obtain rfl | hc := List.mem_cons.mp hc
    · exact if_pos rfl
    · rw [if_neg (hlt c hc).ne]
      exact ih hp hc

/-- The entries of a canonical memory are its addresses with a byte other than the unlisted one. -/
theorem mem_iff_of_wf {mem : Memory} (h : mem.wf) (c : Host.Cell) :
    c ∈ mem ↔ c.1 < 65536 ∧ c.2 ≠ unlistedByte ∧ mem.readAt c.1 = c.2 := by
  obtain ⟨hp, hv⟩ := h
  refine ⟨fun hc => ⟨(hv c hc).1, (hv c hc).2, readAt_of_mem hp hc⟩, fun ⟨_, hne, hr⟩ => ?_⟩
  by_cases hlisted : ∃ d ∈ mem, d.1 = c.1
  · obtain ⟨d, hd, hk⟩ := hlisted
    have hv : d.2 = c.2 := by rw [← readAt_of_mem hp hd, hk, hr]
    exact Prod.ext hk hv ▸ hd
  · push Not at hlisted
    exact absurd (hr.symm.trans (readAt_of_not_listed hlisted)) hne

/-- A canonical memory is determined by the bytes it reads as. -/
theorem wf_ext {mem mem' : Memory} (h : mem.wf) (h' : mem'.wf) (hread : ∀ addr, mem.read addr = mem'.read addr) :
    mem = mem' := by
  have hAt (k : Nat) (hk : k < 65536) : mem.readAt k = mem'.readAt k := by
    simpa [Memory.read, Nat.mod_eq_of_lt hk] using hread (BitVec.ofNat 16 k)
  have hirrefl : Std.Irrefl (fun c d : Host.Cell => c.1 < d.1) := ⟨fun c => Nat.lt_irrefl c.1⟩
  refine h.1.eq_of_mem_iff h'.1 fun c => ?_
  rw [mem_iff_of_wf h, mem_iff_of_wf h']
  exact and_congr_right fun hk => by rw [hAt c.1 hk]

/-! ## What a step does to memory -/

/-- A completed instruction leaves memory alone, unless it is a memory form of ASL. -/
theorem completed_mem (h : Completed cfg m mode s t) :
    t.mem = s.mem ∨ (m = .ASL ∧ mode ≠ .implied ∧ ∃ ea extra,
      resolveAddress .ASL mode s.x s.y s.mem = .ok (ea, extra) ∧ t.mem = (aslM cfg ea s).mem) := by
  obtain ⟨k, -, ⟨_, _, -, -, -, rfl⟩ | ⟨_, _, -, -, rfl⟩ | ⟨-, -, rfl⟩ | ⟨ea, extra, hm, hmode, ha, rfl⟩⟩ := h
  · exact .inl rfl
  · exact .inl rfl
  · exact .inl rfl
  · exact .inr ⟨hm, hmode, ea, extra, ha, rfl⟩

/-- So does an error: `execute` leaves memory alone, unless it completes a memory form of ASL. -/
theorem execute_mem (h : execute cfg m mode s = .next t) :
    t.mem = s.mem ∨ (m = .ASL ∧ mode ≠ .implied ∧ ∃ ea extra,
      resolveAddress .ASL mode s.x s.y s.mem = .ok (ea, extra) ∧ t.mem = (aslM cfg ea s).mem) := by
  obtain ⟨e, rfl⟩ | hc := execute_raises_or_completes h
  · exact .inl rfl
  · exact completed_mem hc

theorem wf_aslM (h : Inv s) (cfg : Config) (ea : Addr) : (aslM cfg ea s).mem.wf :=
  Memory.wf_write h _ _

/-- The instructions of ASL other than ASL of the accumulator are the memory forms. -/
theorem mem_aslMemoryForms {i : Instr} (hm : i.mnemonic = .ASL) (hmode : i.mode ≠ .implied) :
    ∃ v w, i ∈ aslMemoryForms v w := by
  cases i
  case aslZeroPage z => exact ⟨z, 0, by simp [aslMemoryForms]⟩
  case aslZeroPageX z => exact ⟨z, 0, by simp [aslMemoryForms]⟩
  case aslAbsolute a => exact ⟨0, a, by simp [aslMemoryForms]⟩
  case aslAbsoluteX a => exact ⟨0, a, by simp [aslMemoryForms]⟩
  case aslImplied => exact absurd rfl hmode
  all_goals cases hm

end Laws

/-! ## The statements -/

/-- Settles O15: an error leaves memory alone, and a completed instruction leaves it alone or writes one byte. -/
theorem stepKeepsMemoryCanonical : Obligations.StepKeepsMemoryCanonical := by
  intro s t hinv h
  obtain ⟨-, ⟨e, rfl⟩ | ⟨i, -, hc⟩⟩ := step_raises_or_completes h
  · exact hinv
  · obtain hmem | ⟨-, -, ea, extra, -, hmem⟩ := completed_mem hc
    · exact (congrArg Memory.wf hmem).mpr hinv
    · exact (congrArg Memory.wf hmem).mpr (wf_aslM hinv activeConfig ea)

/-- Settles O5: the crossing is a changed high byte, which is a carry out of the low one. -/
theorem pageCrossIffLowByteCarries : Obligations.PageCrossIffLowByteCarries := fun a d =>
  (addCheckPageCross_crossed a d).trans (hi_add_ne_iff a d)

/-- Settles O8: mode by mode, from the sums in natural numbers. -/
theorem resolvedAddresses : Obligations.ResolvedAddresses := by
  intro m z a x y mem crossed
  refine ⟨?zeroPage, ?zeroPageX, rfl, ?absoluteX, ?absoluteY, rfl, rfl, ?preIndexed, ?postIndexed⟩
  case zeroPage => rw [← upgrade_eq]; rfl
  case zeroPageX => rw [← upgrade_zeroPageAdd]; rfl
  case absoluteX =>
    obtain ⟨ea, hea, hsum⟩ := indexed_eq a x
    exact ⟨ea, congrArg Except.ok hea, hsum⟩
  case absoluteY =>
    obtain ⟨ea, hea, hsum⟩ := indexed_eq a y
    exact ⟨ea, congrArg Except.ok hea, hsum⟩
  case preIndexed => rw [← upgrade_zeroPageAdd]; rfl
  case postIndexed =>
    rw [← upgrade_eq]
    obtain ⟨ea, hea, hsum⟩ := indexed_eq (mem.read16 (upgrade z)) y
    exact ⟨ea, congrArg Except.ok hea, hsum⟩

/-- Settles O10: Immediate has no effective address, and every mode that has one reads its byte there. -/
theorem operandValueIsByteAtAddress : Obligations.OperandValueIsByteAtAddress := by
  refine fun m mode x y mem => ⟨?immediate, fun ea extra h => ⟨?value, resolveAddress_extra_le h⟩⟩
  case immediate => rintro b rfl; exact ⟨rfl, rfl⟩
  case value => exact resolveValue_of_resolveAddress h

/-- Settles O11: by induction on the writes, the last of them first. -/
theorem readGivesMostRecentWrite : Obligations.ReadGivesMostRecentWrite := by
  intro mem writes addr
  induction writes using List.reverseRecOn with
  | nil => rfl
  | append_singleton writes c ih =>
    rw [List.foldl_append, List.foldl_cons, List.foldl_nil, Memory.read_write, List.reverse_append,
      List.reverse_singleton, List.singleton_append, List.find?_cons]
    by_cases hc : c.1 = addr
    · simp [hc]
    · simpa [hc, Ne.symm hc] using ih

/-- Settles O12: the entries of a canonical memory are its bytes other than the unlisted one, in one order. -/
theorem canonicalMemoryIsItsBytes : Obligations.CanonicalMemoryIsItsBytes :=
  ⟨fun _ _ h h' hread => wf_ext h h' hread, fun _ addr v h => Memory.wf_write h addr v⟩

/-- Settles O52: a changed byte means that a memory form of ASL completed, and it writes at its effective address
alone. -/
theorem onlyAslChangesMemory : Obligations.OnlyAslChangesMemory := by
  intro s t addr h hne
  obtain ⟨-, ⟨e, rfl⟩ | ⟨i, hi, hc⟩⟩ := step_raises_or_completes h
  · exact absurd rfl hne
  obtain hmem | ⟨hm, hmode, ea, extra, ha, hmem⟩ := completed_mem hc
  · exact absurd (by rw [hmem]) hne
  rw [hmem] at hne ⊢
  obtain rfl : addr = ea := by
    by_contra haddr
    exact hne (aslM_read_ne activeConfig s haddr)
  obtain ⟨v, w, hform⟩ := mem_aslMemoryForms hm hmode
  exact ⟨v, w, i, extra, hform, hi, ha, by rw [aslM_read_same, aslResult_toNat]⟩

/-- Settles O4: the sum and the crossing are the definition's, and the examples evaluate. -/
theorem pageCrossDetection : Obligations.PageCrossDetection :=
  ⟨fun a d => ⟨addCheckPageCross_toNat a d, addCheckPageCross_crossed a d⟩, by decide, by decide⟩

/-- Settles O6: byte addition wraps at 256, and `upgrade` is `from_bytes` with the high byte zero. -/
theorem zeroPageArithmetic : Obligations.ZeroPageArithmetic := fun z d =>
  ⟨BitVec.toNat_add z d, rfl, hi_fromBytes z 0x00, lo_fromBytes z 0x00⟩

/-- Settles O7: `MemRead16` is `from_bytes` of the two bytes, the second at the next address modulo 65536. -/
theorem pointerLowThenHighByte : Obligations.PointerLowThenHighByte :=
  ⟨read16_toNat, fun mem => ⟨hi_read16 mem 0x00FF, hi_read16 mem 0xFFFF⟩,
    fun _ _ _ h => pointerAccesses_of_pointerAddr h⟩

/-- Settles O9: the resolver's two undefined modes, the table without ZeroPageY, and the branches without a semantic
function. -/
theorem undefinedModesRaise : Obligations.UndefinedModesRaise := by
  refine ⟨fun _ _ _ _ _ => ⟨rfl, rfl, rfl, rfl⟩, fun m b s hm hf => ?zeroPageY, fun s i b hf hi hmode => ?relative⟩
  case zeroPageY =>
    have hrow := metricsOf_active_zeroPageY m
    exact ⟨hrow, execute_noRow hf (semanticOf_of_implemented hm) hrow⟩
  case relative => exact step_not_implemented hf hi (not_implemented_of_relative hmode)

end Sys2Proof.Proofs
end

section
/-! The memory accesses of a step (20_memory.md R58, decision D11; log 12): what they write, how many they are, and that
a step depends on memory through its reads alone. -/

namespace Sys2Proof.Proofs

open Sys2Proof.Machine Sys2Proof.Safety Sys2Proof.Forms

section Laws

variable {cfg : Config} {m : Mnemonic} {mode : AddressMode} {s t : State} {f : SemanticFunction} {mem' : Memory}

/-! ## The accesses of `execute` -/

theorem executeAccesses_no_semantics (h : semanticOf cfg m = none) : executeAccesses cfg m mode s = [] := by
  unfold executeAccesses
  rw [h]
  cases s.fault <;> rfl

theorem executeAccesses_noRow (h : metricsOf cfg m mode.variant = none) : executeAccesses cfg m mode s = [] := by
  unfold executeAccesses
  rw [h]
  cases s.fault <;> cases semanticOf cfg m <;> rfl

theorem executeAccesses_stopped {e : BlockError} (h : s.fault = some e) : executeAccesses cfg m mode s = [] := by
  simp only [executeAccesses, h]

theorem executeAccesses_running {k : ExecutionMetrics} (hf : s.fault = none) (hs : semanticOf cfg m = some f)
    (hk : metricsOf cfg m mode.variant = some k) :
    executeAccesses cfg m mode s = semanticAccesses f m mode s := by
  simp only [executeAccesses, hf, hs, hk]

theorem semanticAccesses_error {e : BlockError} (h : resolveAddress m mode s.x s.y s.mem = .error e) :
    semanticAccesses f m mode s = [] := by
  simp only [semanticAccesses, h]

/-- A function of the operand's value makes no write. -/
theorem byteAfter_onValue (addr : Addr) (g : Byte → State → Except Refusal State) (v : Byte) :
    byteAfter addr (semanticAccesses (.onValue g) m mode s) v = v := by
  unfold semanticAccesses
  split
  · rfl
  · rw [byteAfter_append, byteAfter_pointerAccesses]; rfl

/-- ASL on memory writes the byte that it leaves at the effective address. -/
theorem byteAfter_aslM {ea : Addr} {extra : Nat} (addr : Addr)
    (ha : resolveAddress m mode s.x s.y s.mem = .ok (ea, extra)) :
    byteAfter addr (semanticAccesses (.readModifyWrite (aslA cfg) (aslM cfg)) m mode s) (s.mem.read addr) =
      (aslM cfg ea s).mem.read addr := by
  simp only [semanticAccesses, ha, byteAfter_append, byteAfter_pointerAccesses, byteAfter]
  split
  · next h => rw [h]
  · next h => rw [aslM_read_ne cfg s (Ne.symm h)]

/-- The accesses of a mnemonic other than ASL write nothing. -/
theorem byteAfter_executeAccesses_of_ne (hm : m ≠ .ASL) (addr : Addr) (v : Byte) :
    byteAfter addr (executeAccesses cfg m mode s) v = v := by
  cases hf : s.fault with
  | some e => rw [executeAccesses_stopped hf]; rfl
  | none =>
    cases hk : metricsOf cfg m mode.variant with
    | none => rw [executeAccesses_noRow hk]; rfl
    | some k =>
      obtain ⟨-, hs⟩ | ⟨-, hs⟩ | ⟨hasl, -⟩ | ⟨-, -, -, hs⟩ := semanticOf_cases cfg m
      · rw [executeAccesses_running hf hs hk, byteAfter_onValue]
      · rw [executeAccesses_running hf hs hk, byteAfter_onValue]
      · exact absurd hasl hm
      · rw [executeAccesses_no_semantics hs]; rfl

/-- Memory after `execute` is what the writes among its accesses made it. -/
theorem byteAfter_executeAccesses (addr : Addr) (h : execute cfg m mode s = .next t) :
    byteAfter addr (executeAccesses cfg m mode s) (s.mem.read addr) = t.mem.read addr := by
  by_cases hm : m = .ASL
  · subst hm
    obtain ⟨hf, -⟩ := execute_next h
    have hs : semanticOf cfg .ASL = some (.readModifyWrite (aslA cfg) (aslM cfg)) := rfl
    cases hk : metricsOf cfg .ASL mode.variant with
    | none =>
      rw [execute_noRow hf (hs ▸ nofun) hk] at h
      cases h
      rw [executeAccesses_noRow hk]; rfl
    | some k =>
      rw [executeAccesses_running hf hs hk]
      cases ha : resolveAddress .ASL mode s.x s.y s.mem with
      | error e =>
        have hmem : t.mem = s.mem := (execute_mem h).resolve_right (by simp [ha])
        rw [semanticAccesses_error ha, hmem]; rfl
      | ok r =>
        have hmode : mode ≠ .implied := by rintro rfl; cases ha
        rw [execute_aslM hf hk hmode ha] at h
        cases h
        exact byteAfter_aslM addr ha
  · have hmem : t.mem = s.mem := (execute_mem h).resolve_right fun hasl => hm hasl.1
    rw [byteAfter_executeAccesses_of_ne hm, hmem]

/-! ## The number of accesses -/

/-- The fetch reads as many bytes as the instruction has (30_encoding.md R98). -/
theorem fetchAccesses_length {mem : Memory} {pc : Addr} {i : Instr} (h : fetch mem pc = .ok i) :
    (fetchAccesses activeConfig mem pc).length = (encode i).length := by
  have hsound := opcodeFormat_sound (mem.read pc)
  have hrow := decodeRow_active (mem.read pc)
  unfold fetch at h
  rw [encode_length]
  split at h <;> rename_i hf <;> rw [hf] at hsound hrow <;> cases h
  · obtain ⟨-, -, hl⟩ := hsound
    rw [hl]; simp [fetchAccesses, hrow, rowOfFormat]
  · obtain ⟨-, -, hl⟩ := hsound (mem.read (pc + 1))
    rw [hl]; simp [fetchAccesses, hrow, rowOfFormat]
  · obtain ⟨-, -, hl⟩ := hsound (fromBytes (mem.read (pc + 1)) (mem.read (pc + 2)))
    rw [hl]; simp [fetchAccesses, hrow, rowOfFormat]

theorem stepAccesses_length {i : Instr} (hf : s.fault = none) (hi : fetch s.mem s.pc = .ok i) :
    (stepAccesses activeConfig s).length =
      (encode i).length + (executeAccesses activeConfig i.mnemonic i.mode s).length := by
  have hd : decodeAt activeConfig s.mem s.pc s.cyc = .ok (i.mnemonic, i.mode) := by
    rw [decodeAt_active, hi]; rfl
  rw [stepAccesses_decoded hf hd, List.length_append, fetchAccesses_length hi]

/-- The table of 20_memory.md R58, form by form. -/
theorem accessCounts_eq (v : Byte) (w : Addr) (hf : s.fault = none) :
    ∀ q ∈ accessCounts v w,
      (encode q.1).length + (executeAccesses activeConfig q.1.mnemonic q.1.mode s).length = q.2 := by
  obtain ⟨a, x, y, sp, pc, p, cyc, fault, mem⟩ := s
  cases hf
  simp only [accessCounts, List.forall_mem_cons, List.not_mem_nil, false_imp_iff, implies_true, and_true]
  and_intros <;> rfl

/-! ## A step depends on memory through its reads -/

/-- The state with another memory. -/
def withMem (mem : Memory) (s : State) : State := { s with mem := mem }

@[simp] theorem withMem_x (mem : Memory) (s : State) : (withMem mem s).x = s.x := rfl
@[simp] theorem withMem_y (mem : Memory) (s : State) : (withMem mem s).y = s.y := rfl
@[simp] theorem withMem_pc (mem : Memory) (s : State) : (withMem mem s).pc = s.pc := rfl
@[simp] theorem withMem_p (mem : Memory) (s : State) : (withMem mem s).p = s.p := rfl
@[simp] theorem withMem_cyc (mem : Memory) (s : State) : (withMem mem s).cyc = s.cyc := rfl
@[simp] theorem withMem_fault (mem : Memory) (s : State) : (withMem mem s).fault = s.fault := rfl
@[simp] theorem withMem_mem (mem : Memory) (s : State) : (withMem mem s).mem = mem := rfl

theorem blockOutcome_eq_mapNext (o : StepOutcome) : blockOutcome o = mapNext (withMem []) o := by
  cases o <;> rfl

theorem agreeOnReads_append {l l' : List Access} {mem : Memory} :
    AgreeOnReads (l ++ l') mem mem' ↔ AgreeOnReads l mem mem' ∧ AgreeOnReads l' mem mem' := by
  simp only [AgreeOnReads, List.mem_append, or_imp, forall_and]

/-- A semantic function depends on memory through its operand alone: a function of a value not at all, and one that
works on memory through the byte at the effective address, on which what it leaves there depends too. -/
def ReadsOnlyOperand : SemanticFunction → Prop
  | .onValue g => ∀ val mem s, g val (withMem mem s) = (g val s).map (withMem mem)
  | .readModifyWrite onA onMemory =>
    (∀ mem s, onA (withMem mem s) = withMem mem (onA s)) ∧
    ∀ ea mem s, mem.read ea = s.mem.read ea →
      withMem [] (onMemory ea (withMem mem s)) = withMem [] (onMemory ea s) ∧
      (onMemory ea (withMem mem s)).mem.read ea = (onMemory ea s).mem.read ea

theorem adc_withMem (cfg : Config) (val : Byte) (mem : Memory) (s : State) :
    adc cfg val (withMem mem s) = (adc cfg val s).map (withMem mem) := by
  unfold adc
  rw [withMem_p]
  split <;> rfl

theorem aslM_withMem (cfg : Config) {ea : Addr} {mem : Memory} (h : mem.read ea = s.mem.read ea) :
    withMem [] (aslM cfg ea (withMem mem s)) = withMem [] (aslM cfg ea s) ∧
    (aslM cfg ea (withMem mem s)).mem.read ea = (aslM cfg ea s).mem.read ea := by
  refine ⟨?_, by simp only [aslM_read_same, withMem_mem, h]⟩
  unfold aslM
  rw [withMem_mem, h]
  rfl

theorem semanticOf_readsOnlyOperand (h : semanticOf cfg m = some f) : ReadsOnlyOperand f := by
  obtain ⟨-, hs⟩ | ⟨-, hs⟩ | ⟨-, hs⟩ | ⟨-, -, -, hs⟩ := semanticOf_cases cfg m <;> rw [hs] at h <;> cases h
  · exact adc_withMem cfg
  · exact fun _ _ _ => rfl
  · exact ⟨fun _ _ => rfl, fun _ _ _ hr => aslM_withMem cfg hr⟩

/-- A mode without an effective address has no pointer. -/
theorem pointerAccesses_of_error {x y : Byte} {mem : Memory} {e : BlockError}
    (h : resolveAddress m mode x y mem = .error e) : pointerAccesses mode x = [] := by
  cases mode
  case preIndexedIndirectX | postIndexedIndirectY => cases h
  all_goals rfl

theorem resolveAddress_of_agree_operand (h : AgreeOnReads (semanticAccesses f m mode s) s.mem mem') :
    resolveAddress m mode s.x s.y mem' = resolveAddress m mode s.x s.y s.mem := by
  refine resolveAddress_of_agree fun addr hptr => ?_
  cases hr : resolveAddress m mode s.x s.y s.mem with
  | error e => rw [pointerAccesses_of_error hr] at hptr; cases hptr
  | ok r => exact h addr (by cases f <;> simp [semanticAccesses, hr, hptr])

theorem read_of_agree_operand {ea : Addr} {extra : Nat} (h : AgreeOnReads (semanticAccesses f m mode s) s.mem mem')
    (hr : resolveAddress m mode s.x s.y s.mem = .ok (ea, extra)) : mem'.read ea = s.mem.read ea :=
  h ea (by cases f <;> simp [semanticAccesses, hr])

theorem resolveValue_of_agree_operand (h : AgreeOnReads (semanticAccesses f m mode s) s.mem mem') :
    resolveValue m mode s.x s.y mem' = resolveValue m mode s.x s.y s.mem := by
  have ha := resolveAddress_of_agree_operand h
  cases hr : resolveAddress m mode s.x s.y s.mem with
  | error e => cases mode <;> simp only [resolveValue, ha, hr]
  | ok r =>
    rw [resolveValue_of_resolveAddress hr, resolveValue_of_resolveAddress (ha.trans hr),
      read_of_agree_operand h hr]

theorem semanticAccesses_withMem (hf : ReadsOnlyOperand f)
    (h : AgreeOnReads (semanticAccesses f m mode s) s.mem mem') :
    semanticAccesses f m mode (withMem mem' s) = semanticAccesses f m mode s := by
  have ha := resolveAddress_of_agree_operand h
  cases hr : resolveAddress m mode s.x s.y s.mem with
  | error e => rw [semanticAccesses_error hr, semanticAccesses_error (ha.trans hr)]
  | ok r =>
    cases f with
    | onValue g => simp only [semanticAccesses, withMem_x, withMem_y, withMem_mem, ha]
    | readModifyWrite onA onMemory =>
      obtain ⟨-, hMemory⟩ := hf
      obtain ⟨-, hw⟩ := hMemory r.1 mem' s (read_of_agree_operand h hr)
      simp only [semanticAccesses, withMem_x, withMem_y, withMem_mem, ha, hr, hw]

theorem applySemantic_withMem (hf : ReadsOnlyOperand f)
    (h : AgreeOnReads (semanticAccesses f m mode s) s.mem mem') :
    mapDone (withMem []) (applySemantic f m mode (withMem mem' s)) =
      mapDone (withMem []) (applySemantic f m mode s) := by
  cases f with
  | onValue g =>
    simp only [applySemantic, withMem_x, withMem_y, withMem_mem, resolveValue_of_agree_operand h, hf _ mem' s]
    cases resolveValue m mode s.x s.y s.mem with
    | error e => rfl
    | ok r => cases hg : g r.1 s <;> simp only [hg] <;> rfl
  | readModifyWrite onA onMemory =>
    obtain ⟨hA, hMemory⟩ := hf
    simp only [applySemantic, withMem_x, withMem_y, withMem_mem, resolveAddress_of_agree_operand h, hA mem' s]
    split
    · rfl
    · cases hr : resolveAddress m mode s.x s.y s.mem with
      | error e => rfl
      | ok r =>
        obtain ⟨ht, -⟩ := hMemory r.1 mem' s (read_of_agree_operand h hr)
        exact congrArg (Applied.done r.2) ht

/-- Steps 5 and 6 of the engine, after steps 3 and 4. -/
def conclude (k : ExecutionMetrics) (s : State) : Applied → StepOutcome
  | .done extra t => .next (t.retire k.bytes (k.cycles + extra))
  | .raised e => .next (s.raise e)
  | .refused r => .refused r

theorem execute_running {k : ExecutionMetrics} (hf : s.fault = none) (hs : semanticOf cfg m = some f)
    (hk : metricsOf cfg m mode.variant = some k) :
    execute cfg m mode s = conclude k s (applySemantic f m mode s) := by
  simp only [execute, hf, hs, hk]
  cases applySemantic f m mode s <;> rfl

theorem mapNext_conclude (mem : Memory) (k : ExecutionMetrics) (s : State) (r : Applied) :
    mapNext (withMem mem) (conclude k s r) = conclude k (withMem mem s) (mapDone (withMem mem) r) := by
  cases r <;> rfl

/-- With any memory that agrees on what `execute` reads, it makes the same accesses and the same change to the
block. -/
theorem execute_withMem (h : AgreeOnReads (executeAccesses cfg m mode s) s.mem mem') :
    executeAccesses cfg m mode (withMem mem' s) = executeAccesses cfg m mode s ∧
    mapNext (withMem []) (execute cfg m mode (withMem mem' s)) = mapNext (withMem []) (execute cfg m mode s) := by
  cases hf : s.fault with
  | some e =>
    have hf' : (withMem mem' s).fault = some e := hf
    rw [executeAccesses_stopped hf, executeAccesses_stopped hf', execute_stopped hf, execute_stopped hf']
    exact ⟨rfl, rfl⟩
  | none =>
    have hf' : (withMem mem' s).fault = none := hf
    cases hs : semanticOf cfg m with
    | none =>
      rw [executeAccesses_no_semantics hs, executeAccesses_no_semantics hs, execute_notYetImplemented hf hs,
        execute_notYetImplemented hf' hs]
      exact ⟨rfl, rfl⟩
    | some f =>
      cases hk : metricsOf cfg m mode.variant with
      | none =>
        have hne : semanticOf cfg m ≠ none := hs ▸ nofun
        rw [executeAccesses_noRow hk, executeAccesses_noRow hk, execute_noRow hf hne hk, execute_noRow hf' hne hk]
        exact ⟨rfl, rfl⟩
      | some k =>
        have hfn := semanticOf_readsOnlyOperand hs
        rw [executeAccesses_running hf hs hk] at h ⊢
        rw [executeAccesses_running hf' hs hk, execute_running hf hs hk, execute_running hf' hs hk,
          mapNext_conclude, mapNext_conclude, applySemantic_withMem hfn h]
        exact ⟨semanticAccesses_withMem hfn h, rfl⟩

theorem stepAccesses_stopped {e : BlockError} (h : s.fault = some e) : stepAccesses cfg s = [] := by
  simp only [stepAccesses, h]

theorem stepWith_withMem (h : AgreeOnReads (stepAccesses cfg s) s.mem mem') :
    stepAccesses cfg (withMem mem' s) = stepAccesses cfg s ∧
    mapNext (withMem []) (stepWith cfg (withMem mem' s)) = mapNext (withMem []) (stepWith cfg s) := by
  cases hf : s.fault with
  | some e =>
    have hf' : (withMem mem' s).fault = some e := hf
    rw [stepAccesses_stopped hf, stepAccesses_stopped hf', stepWith_stopped hf, stepWith_stopped hf']
    exact ⟨rfl, rfl⟩
  | none =>
    have hf' : (withMem mem' s).fault = none := hf
    cases hd : decodeAt cfg s.mem s.pc s.cyc with
    | error e =>
      obtain ⟨hr, -⟩ := decodeAt_error hd
      rw [stepAccesses_illegal hf hr] at h ⊢
      have hop : mem'.read s.pc = s.mem.read s.pc := h s.pc (List.mem_singleton_self _)
      have hr' : decodeRow cfg ((withMem mem' s).mem.read (withMem mem' s).pc) = none := by
        simpa only [withMem_mem, withMem_pc, hop] using hr
      rw [stepAccesses_illegal hf' hr', stepWith_illegal hf hr, stepWith_illegal hf' hr', withMem_mem, withMem_pc, hop]
      exact ⟨rfl, rfl⟩
    | ok r =>
      rw [stepAccesses_decoded hf hd] at h ⊢
      obtain ⟨hfetch, hexecute⟩ := agreeOnReads_append.mp h
      obtain ⟨hreads, hdecode⟩ := decodeAt_of_agree hfetch s.cyc
      obtain ⟨haccesses, houtcome⟩ := execute_withMem hexecute
      have hd' : decodeAt cfg (withMem mem' s).mem (withMem mem' s).pc (withMem mem' s).cyc = .ok r :=
        hdecode.trans hd
      rw [stepAccesses_decoded hf' hd', stepWith_decoded hf hd, stepWith_decoded hf' hd', haccesses, withMem_mem,
        withMem_pc, hreads]
      exact ⟨rfl, houtcome⟩

end Laws

/-! ## The statements -/

/-- Settles O53: the fetch, the resolver and each semantic function depend on memory through their reads alone. -/
theorem stepReadsOnlyItsAccesses : Obligations.StepReadsOnlyItsAccesses := by
  intro cfg s mem' h
  rw [blockOutcome_eq_mapNext, blockOutcome_eq_mapNext]
  exact stepWith_withMem h

/-- Settles O54: the fetch and the pointer reads write nothing, and the one write is that of ASL on memory. -/
theorem stepWritesItsAccesses : Obligations.StepWritesItsAccesses := by
  intro cfg s t addr h
  obtain ⟨hf, ⟨hr, rfl⟩ | ⟨m, mode, hd, -⟩⟩ := stepWith_next h
  · rw [stepAccesses_illegal hf hr]; rfl
  · rw [stepWith_decoded hf hd] at h
    rw [stepAccesses_decoded hf hd, byteAfter_append, byteAfter_fetchAccesses, byteAfter_executeAccesses addr h]

/-- Settles O55: the fetch reads the instruction's bytes, and `execute` makes the rest. -/
theorem accessesPerStep : Obligations.AccessesPerStep := by
  refine ⟨fun v w q s hq hf hi => ?implemented, fun i s hm hf hi => ?recognised⟩
  case implemented => exact (stepAccesses_length hf hi).trans (accessCounts_eq v w hf q hq)
  case recognised =>
    rw [stepAccesses_length hf hi, executeAccesses_no_semantics (semanticOf_of_not_implemented hm)]; rfl

end Sys2Proof.Proofs
end

section
/-! The encoding (30_encoding.md): the opcode map, the encoder and the active decode table agree instruction by
instruction, decoding and encoding are inverse, and a step runs what the bytes at PC encode. -/

namespace Sys2Proof.Proofs

open Sys2Proof.Machine Sys2Proof.Laws Sys2Proof.Forms

section Laws

variable {s : State} {i : Instr} {rest : List Byte}

/-! ## The cell of the opcode map at an instruction's opcode -/

section
open MapRow

/-- The MapRow lemmas, put together over the constructors. -/
theorem mapRow_statement : ∀ i : Instr, MapRow.Statement i :=
  Instr.rec adcImmediate adcZeroPage adcZeroPageX adcAbsolute adcAbsoluteX adcAbsoluteY adcPreIndexedIndirectX
    adcPostIndexedIndirectY andImmediate andZeroPage andZeroPageX andAbsolute andAbsoluteX andAbsoluteY
    andPreIndexedIndirectX andPostIndexedIndirectY aslZeroPage aslZeroPageX aslAbsolute aslAbsoluteX aslImplied
    bccRelative bcsRelative beqRelative bitZeroPage bitAbsolute bmiRelative bneRelative bplRelative brkImplied
    bvcRelative bvsRelative clcImplied cldImplied cliImplied clvImplied cmpImmediate cmpZeroPage cmpZeroPageX
    cmpAbsolute cmpAbsoluteX cmpAbsoluteY cmpPreIndexedIndirectX cmpPostIndexedIndirectY cpxImmediate
    cpxZeroPage cpxAbsolute cpyImmediate cpyZeroPage cpyAbsolute decZeroPage decZeroPageX decAbsolute
    decAbsoluteX dexImplied deyImplied eorImmediate eorZeroPage eorZeroPageX eorAbsolute eorAbsoluteX
    eorAbsoluteY eorPreIndexedIndirectX eorPostIndexedIndirectY incZeroPage incZeroPageX incAbsolute
    incAbsoluteX inxImplied inyImplied jmpAbsolute jmpIndirect jsrAbsolute ldaImmediate ldaZeroPage ldaZeroPageX
    ldaAbsolute ldaAbsoluteX ldaAbsoluteY ldaPreIndexedIndirectX ldaPostIndexedIndirectY ldxImmediate
    ldxZeroPage ldxZeroPageY ldxAbsolute ldxAbsoluteY ldyImmediate ldyZeroPage ldyZeroPageX ldyAbsolute
    ldyAbsoluteX lsrZeroPage lsrZeroPageX lsrAbsolute lsrAbsoluteX lsrImplied nopImplied oraImmediate
    oraZeroPage oraZeroPageX oraAbsolute oraAbsoluteX oraAbsoluteY oraPreIndexedIndirectX
    oraPostIndexedIndirectY phaImplied phpImplied plaImplied plpImplied rolZeroPage rolZeroPageX rolAbsolute
    rolAbsoluteX rolImplied rorZeroPage rorZeroPageX rorAbsolute rorAbsoluteX rorImplied rtiImplied rtsImplied
    sbcImmediate sbcZeroPage sbcZeroPageX sbcAbsolute sbcAbsoluteX sbcAbsoluteY sbcPreIndexedIndirectX
    sbcPostIndexedIndirectY secImplied sedImplied seiImplied staZeroPage staZeroPageX staAbsolute staAbsoluteX
    staAbsoluteY staPreIndexedIndirectX staPostIndexedIndirectY stxZeroPage stxZeroPageY stxAbsolute styZeroPage
    styZeroPageX styAbsolute taxImplied tayImplied tsxImplied txaImplied txsImplied tyaImplied

end

/-- Every instruction is well formed: its pair is one that the rules' Encoding lines list. -/
theorem instr_wf (i : Instr) : i.wf = true := by
  obtain ⟨-, -, -, -, hwf⟩ := mapRow_statement i
  exact hwf

/-- A cell builds an instruction from an operand of its own format (30_encoding.md R91 to R93). -/
theorem builtFrom_cases {f : Format} {mode : AddressMode} (h : builtFrom f mode = some i) :
    (f = .f1 i ∧ mode.operandBytes = []) ∨
    (∃ build v, f = .f2 build ∧ i = build v ∧ mode.operandBytes = [v]) ∨
    (∃ build a, f = .f3 build ∧ i = build a ∧ mode.operandBytes = [lo a, hi a]) := by
  unfold builtFrom at h
  split at h <;> cases h
  case h_1 => exact .inl ⟨rfl, rfl⟩
  case h_2 | h_3 | h_4 | h_5 | h_6 | h_7 | h_8 => exact .inr (.inl ⟨_, _, rfl, rfl, rfl⟩)
  case h_9 | h_10 | h_11 | h_12 => exact .inr (.inr ⟨_, _, rfl, rfl, rfl⟩)

/-- The cell at an instruction's opcode builds that instruction from its own operand bytes. -/
theorem opcodeFormat_opcode_cases (i : Instr) :
    (opcodeFormat i.opcode = some (.f1 i) ∧ i.mode.operandBytes = []) ∨
    (∃ build v, opcodeFormat i.opcode = some (.f2 build) ∧ i = build v ∧ i.mode.operandBytes = [v]) ∨
    (∃ build a, opcodeFormat i.opcode = some (.f3 build) ∧ i = build a ∧
      i.mode.operandBytes = [lo a, hi a]) := by
  obtain ⟨f, hf, hbuilt, -, -⟩ := mapRow_statement i
  simpa [hf] using builtFrom_cases hbuilt

/-- The list of R100 is, in order, the bytes whose cell is empty. -/
theorem illegalOpcodes_eq_filter :
    illegalOpcodes = ((List.range 256).map (BitVec.ofNat 8)).filter (fun op => (opcodeFormat op).isNone) := by
  decide

theorem opcodeFormat_eq_none_iff (op : Byte) : opcodeFormat op = none ↔ op ∈ illegalOpcodes := by
  have hop : ∃ n < 256, BitVec.ofNat 8 n = op := ⟨op.toNat, op.isLt, BitVec.ofNat_toNat 8 op⟩
  simp [illegalOpcodes_eq_filter, hop]

/-! ## Decoding and encoding -/

theorem decode_encode (i : Instr) (rest : List Byte) : decode (encode i ++ rest) = .ok (i, rest) := by
  obtain ⟨hf, hb⟩ | ⟨build, v, hf, rfl, hb⟩ | ⟨build, a, hf, rfl, hb⟩ := opcodeFormat_opcode_cases i <;>
    rw [encode, hb]
  · exact decode_f1 hf rest
  · exact decode_f2 hf v rest
  · simpa using decode_f3 hf (lo a) (hi a) rest

theorem eq_encode_of_decode {bytes : List Byte} (h : decode bytes = .ok (i, rest)) :
    bytes = encode i ++ rest := by
  cases bytes with
  | nil => cases h
  | cons op bytes =>
    have hsound := opcodeFormat_sound op
    simp only [decode] at h
    split at h <;> cases h <;> rename_i hf <;> rw [hf] at hsound
    case h_2 =>
      obtain ⟨hop, hb, -⟩ := hsound
      simp [encode, hop, hb]
    case h_3 byte1 =>
      obtain ⟨hop, hb, -⟩ := hsound byte1
      simp [encode, hop, hb]
    case h_4 byte1 byte2 =>
      obtain ⟨hop, hb, -⟩ := hsound (fromBytes byte1 byte2)
      simp [encode, hop, hb]

/-! ## The active decode table -/

/-- The row at an instruction's opcode: a cell builds one mnemonic and one variant whatever its operand, so the row
of the cell is the row of the instruction. -/
theorem decodeRow_active_opcode (i : Instr) : decodeRow activeConfig i.opcode =
    some ⟨i.opcode, i.mnemonic, i.mode.variant, (encode i).length⟩ := by
  have hbuilds := opcodeFormat_builds i.opcode
  rw [decodeRow_active]
  obtain ⟨hf, hb⟩ | ⟨build, v, hf, rfl, hb⟩ | ⟨build, a, hf, rfl, hb⟩ := opcodeFormat_opcode_cases i <;>
    rw [hf] at hbuilds ⊢
  · simp [rowOfFormat, encode, hb]
  · obtain ⟨hm, hmode⟩ := hbuilds v 0
    have hv : (build v).mode.variant = (build 0).mode.variant := by rw [← hmode, buildMode_variant]
    simp [rowOfFormat, encode, hb, hm, hv]
  · obtain ⟨hm, hmode⟩ := hbuilds (lo a) (hi a)
    rw [fromBytes_lo_hi] at hm hmode
    have hv : (build a).mode.variant = (build 0).mode.variant := by rw [← hmode, buildMode_variant]
    simp [rowOfFormat, encode, hb, hm, hv]

/-- The row at an opcode byte is that of an instruction. -/
theorem exists_instr_of_decodeRow_active {op : Byte} {r : DecodeRow} (h : decodeRow activeConfig op = some r) :
    ∃ i : Instr, i.mnemonic = r.mnemonic ∧ i.mode.variant = r.variant := by
  rw [decodeRow_active] at h
  obtain ⟨f, -, rfl⟩ := Option.map_eq_some_iff.mp h
  cases f with
  | f1 i => exact ⟨i, rfl, rfl⟩
  | f2 build => exact ⟨build 0, rfl, rfl⟩
  | f3 build => exact ⟨build 0, rfl, rfl⟩

theorem decodeRow_active_eq_none_iff (op : Byte) : decodeRow activeConfig op = none ↔ op ∈ illegalOpcodes := by
  rw [decodeRow_active, Option.map_eq_none_iff, opcodeFormat_eq_none_iff]

/-- The rows of R101 and R102 together. -/
def activeRows : List DecodeRow := costTable.map CostRow.decodeRow ++ recognisedTable

theorem activeRows_nodup_opcode : (activeRows.map DecodeRow.opcode).Nodup :=
  List.Nodup.of_map BitVec.toNat (by decide +kernel)

/-- Each pair of an Encoding line has its row. -/
theorem variants_subset_activeRows (m : Mnemonic) :
    m.variants ⊆ (activeRows.filter (fun r => r.mnemonic = m)).map DecodeRow.variant := by
  cases m <;> decide

theorem mem_variants_iff (m : Mnemonic) (v : Variant) :
    v ∈ m.variants ↔ ∃ i : Instr, i.mnemonic = m ∧ i.mode.variant = v := by
  constructor
  · intro hv
    obtain ⟨r, hr, rfl⟩ := List.mem_map.mp (variants_subset_activeRows m hv)
    obtain ⟨hr, hm⟩ := List.mem_filter.mp hr
    rw [← of_decide_eq_true hm]
    exact exists_instr_of_decodeRow_active (decodeRow_of_nodup (cfg := activeConfig) activeRows_nodup_opcode hr)
  · rintro ⟨i, rfl, rfl⟩
    exact List.contains_iff_mem.mp (instr_wf i)

/-! ## The cost table -/

theorem mem_costTable_of_metricsOf {cfg : Config} {m : Mnemonic} {v : Variant} {k : ExecutionMetrics}
    (h : metricsOf cfg m v = some k) : ⟨m, v, k⟩ ∈ cfg.costTable := by
  obtain ⟨r, hr, rfl⟩ := Option.map_eq_some_iff.mp h
  have hp := List.find?_some hr
  simp only [Bool.and_eq_true, beq_iff_eq] at hp
  obtain ⟨rfl, rfl⟩ := hp
  exact List.mem_of_find?_eq_some hr

/-- The rows of the table, in the order that R101 lists them. -/
theorem costTable_eq_costs :
    costTable = costs.map (fun r => costRow r.1 r.2.1 (BitVec.ofNat 8 r.2.2.1) r.2.2.2.1 r.2.2.2.2) := rfl

theorem metricsOf_active_of_mem :
    ∀ r ∈ costTable, metricsOf activeConfig r.mnemonic r.variant = some r.metrics := by decide

theorem recognisedTable_not_implemented : ∀ r ∈ recognisedTable, r.mnemonic ∉ implemented := by
  decide +kernel

/-- The row of an implemented instruction is one of R101, so the lookup by pair finds it too. -/
theorem metricsOf_active_implemented (h : i.mnemonic ∈ implemented) :
    ∃ k, metricsOf activeConfig i.mnemonic i.mode.variant = some k ∧
      k.opcode = i.opcode ∧ k.bytes = (encode i).length := by
  have hrow := List.mem_of_find?_eq_some (decodeRow_active_opcode i)
  obtain hcost | hrec := List.mem_append.mp hrow
  · obtain ⟨c, hc, hci⟩ := List.mem_map.mp hcost
    obtain ⟨hop, hm, hv, hl⟩ := DecodeRow.mk.inj hci
    exact ⟨c.metrics, hm ▸ hv ▸ metricsOf_active_of_mem c hc, hop, hl⟩
  · exact absurd h (recognisedTable_not_implemented _ hrec)

/-! ## A step on encoded bytes -/

theorem step_of_decode (hf : s.fault = none)
    (h : decode [s.mem.read s.pc, s.mem.read (s.pc + 1), s.mem.read (s.pc + 2)] = .ok (i, rest)) :
    step s = exec i s := by
  simp only [step, hf, fetch_of_decode h]

/-- An instruction held in memory is the beginning of the three bytes there, since it has at most three. -/
theorem encode_prefix_of_held {mem : Memory} {pc : Addr}
    (h : ∀ n b, (encode i)[n]? = some b → mem.read (pc + BitVec.ofNat 16 n) = b) :
    encode i <+: [mem.read pc, mem.read (pc + 1), mem.read (pc + 2)] := by
  rw [List.prefix_iff_getElem?]
  intro n hn
  have hread := h n _ (List.getElem?_eq_getElem hn)
  have hlt : n < 3 := by
    have := variant_length_cases i.mode.variant
    rw [encode_length] at hn; omega
  rw [← hread]
  interval_cases n <;> simp

end Laws

/-! ## The statements -/

/-- Settles O36: the cell at the opcode rebuilds the instruction from its operand bytes. -/
theorem decodeOfEncode : Obligations.DecodeOfEncode := fun i rest _ => decode_encode i rest

/-- Settles O37: a cell builds instructions with its own opcode byte and the operand bytes it read. -/
theorem encodeOfDecode : Obligations.EncodeOfDecode := fun _ _ i h =>
  ⟨eq_encode_of_decode h, instr_wf i, encode_length i⟩

/-- Settles O38: instructions with one opcode have one row of the decode table, and each row is an instruction's. -/
theorem opcodeIdentifiesThePair : Obligations.OpcodeIdentifiesThePair := by
  refine ⟨fun i j h => ?pair, mem_variants_iff, opcodeFormat_eq_none_iff, by decide⟩
  have hrow := decodeRow_active_opcode i
  rw [h, decodeRow_active_opcode j] at hrow
  obtain ⟨-, hm, hv, -⟩ := DecodeRow.mk.inj (Option.some.inj hrow)
  exact ⟨hm.symm, hv.symm⟩

/-- Settles O41: the bytes held at PC decode to the instruction they encode. -/
theorem stepRunsTheEncodedBytes : Obligations.StepRunsTheEncodedBytes := by
  intro s i hf hheld
  obtain ⟨rest, hrest⟩ := encode_prefix_of_held hheld
  exact ⟨step_of_decode hf (hrest ▸ decode_encode i rest), exec_eq_execute i s⟩

/-- Settles O57: the row of each instruction, the bytes without a row, and the distinct opcode bytes. -/
theorem activeTableIsTheOpcodeMap : Obligations.ActiveTableIsTheOpcodeMap :=
  ⟨decodeRow_active_opcode, decodeRow_active_eq_none_iff, activeRows_nodup_opcode⟩

/-- Settles O34: an illegal opcode value has no row, so the decoder stops at it. -/
theorem illegalOpcodesRaise : Obligations.IllegalOpcodesRaise := by
  rintro op s hop hf rfl
  have hr := (decodeRow_active_eq_none_iff _).mpr hop
  exact ⟨(step_eq_stepWith s).trans (stepWith_illegal hf hr), stepAccesses_illegal hf hr⟩

/-- Settles O39, by running the decoder on each word. -/
theorem decodedWords : Obligations.DecodedWords := ⟨rfl, rfl, rfl, rfl, rfl, rfl, rfl, rfl, rfl⟩

/-- Settles O40: the fetch reads what the decoder reads in the three bytes at PC. -/
theorem stepRunsTheDecodedInstruction : Obligations.StepRunsTheDecodedInstruction := fun _ _ _ hf h =>
  step_of_decode hf h

/-- Settles O43, by rendering each example; none of them looks at the label. -/
theorem assemblerExamples : Obligations.AssemblerExamples := fun _ =>
  ⟨rfl, rfl, rfl, rfl, rfl, rfl, rfl, rfl, rfl, rfl, rfl⟩

/-- Settles O51: the table is the list of R101, and its rows are those the decode table has for the implemented
mnemonics. -/
theorem costTableRows : Obligations.CostTableRows := by
  refine ⟨by decide, fun m v h => ?row, fun i h => metricsOf_active_implemented h⟩
  obtain ⟨k, hk⟩ := Option.isSome_iff_exists.mp h
  have hmem : ⟨m, v, k⟩ ∈ costTable := mem_costTable_of_metricsOf hk
  rw [costTable_eq_costs] at hmem
  obtain ⟨r, hr, hrow⟩ := List.mem_map.mp hmem
  exact ⟨r, hr, congrArg CostRow.mnemonic hrow, congrArg CostRow.variant hrow⟩

end Sys2Proof.Proofs
end

section
/-! ADC and AND (40_adc_and.md): setNZ as the last write to P, V as the range test on the signed sum, and the whole
effect of every form. -/

namespace Sys2Proof.Proofs

open Sys2Proof.Machine Sys2Proof.Forms

section Laws

variable {cfg : Config} {m : Mnemonic} {mode : AddressMode} {s t : State} {val : Byte}

/-! ## What the semantic functions leave in A and P -/

theorem getFlag_Z_setNZ (r p : Byte) : getFlag .Z (setNZ r p) = decide (r = 0) := by
  rw [getFlag_setNZ]; rfl

theorem getFlag_N_setNZ (r p : Byte) : getFlag .N (setNZ r p) = r.getLsbD 7 := by
  rw [getFlag_setNZ]; rfl

theorem eq_of_adc_ok (h : adc cfg val s = .ok t) :
    t = (s.setA (adcResult s.a val (getFlag .C s.p))).setP (adcFlags s.a val s.p) := by
  unfold adc at h
  split at h <;> cases h
  rfl

/-- P after a shift ends with setNZ of the result, whatever the parameter says of C (41_asl.md R160, R161). -/
theorem exists_aslFlags_eq_setNZ (cfg : Config) (v p : Byte) : ∃ q, aslFlags cfg v p = setNZ (aslResult v) q := by
  unfold aslFlags
  cases cfg.aslCarry with
  | canonical => exact ⟨setFlag .C (v.getLsbD 7) p, rfl⟩
  | asWritten => exact ⟨p, rfl⟩

/-- A state with the bitwise and in A and P set from it shows the effect of R153. -/
theorem andEffect_of_result (ha : t.a = s.a &&& val) (hp : t.p = setNZ (s.a &&& val) s.p) : AndEffect val s t := by
  unfold AndEffect
  rw [ha, hp]
  exact ⟨fun _ => BitVec.getLsbD_and, getFlag_Z_setNZ _ _, getFlag_N_setNZ _ _, setNZ_kept _ _⟩

/-! ## The signed reading of a byte -/

/-- Read as signed, bit 7 of a byte weighs -128 and the low seven bits weigh what they weigh unsigned. -/
theorem toInt_eq_low_sub_high (v : Byte) : v.toInt = (v.toNat % 128 : Nat) - 128 * (v.toNat / 128 : Nat) := by
  have := v.isLt
  rw [BitVec.toInt_eq_toNat_cond]
  split <;> omega

/-! ## The forms run to completion -/

/-- The resolver has a value for every mode but the three it raises for (20_memory.md R75, R87). -/
theorem exists_resolveValue_ok (m : Mnemonic) (x y : Byte) (mem : Memory)
    (h : mode.variant ∉ [.zeroPageY, .relative, .implied]) :
    ∃ val extra, resolveValue m mode x y mem = .ok (val, extra) := by
  cases mode with
  | zeroPageY | relative | implied => simp [AddressMode.variant] at h
  | immediate | zeroPage | zeroPageX | absolute | absoluteX | absoluteY | indirect
  | preIndexedIndirectX | postIndexedIndirectY => exact ⟨_, _, rfl⟩

/-- Of the rows of R101, only ASL Implied is for a mode without a value. -/
theorem costTable_variant_has_value :
    ∀ r ∈ costTable, r.mnemonic ≠ .ASL → r.variant ∉ [.zeroPageY, .relative, .implied] := by
  decide

/-- An instruction of ADC or AND has its row, and its operand resolves. -/
theorem exists_row_and_value {i : Instr} (hm : i.mnemonic = m) (himpl : m ∈ implemented) (hne : m ≠ .ASL)
    (s : State) :
    ∃ val extra k, resolveValue m i.mode s.x s.y s.mem = .ok (val, extra) ∧
      metricsOf activeConfig m i.mode.variant = some k := by
  subst hm
  obtain ⟨k, hk, -, -⟩ := metricsOf_active_implemented himpl
  have hvariant := costTable_variant_has_value _ (mem_costTable_of_metricsOf hk) hne
  obtain ⟨val, extra, hv⟩ := exists_resolveValue_ok i.mnemonic s.x s.y s.mem hvariant
  exact ⟨val, extra, k, hv, hk⟩

/-- The frame that ADC and AND share: they write A and P, and steps 5 and 6 of the engine move PC and CYC
(30_encoding.md R106). -/
theorem setA_setP_retire_frame (a p : Byte) (k : ExecutionMetrics) (extra : Nat) (hf : s.fault = none)
    (ht : t = ((s.setA a).setP p).retire k.bytes (k.cycles + extra)) :
    RegistersKept s t ∧ Advanced k extra s t ∧ MemoryKept s t := by
  subst ht
  exact ⟨⟨rfl, rfl, rfl, hf⟩, ⟨rfl, rfl⟩, fun _ => rfl⟩

theorem mnemonic_of_mem_adcForms (v : Byte) (w : Addr) : ∀ i ∈ adcForms v w, i.mnemonic = .ADC := by
  simp [adcForms, Instr.mnemonic]

theorem mnemonic_of_mem_andForms (v : Byte) (w : Addr) : ∀ i ∈ andForms v w, i.mnemonic = .AND := by
  simp [andForms, Instr.mnemonic]

end Laws

/-! ## The statements -/

/-- Settles O3: setNZ flag by flag, and the last write to P of each semantic function. -/
theorem setNZFromResult : Obligations.SetNZFromResult := by
  refine ⟨fun r p => ⟨getFlag_N_setNZ r p, getFlag_Z_setNZ r p, setNZ_kept r p⟩, fun cfg val s t h => ?adc,
    fun val s => ⟨s.p, rfl⟩, fun cfg s => exists_aslFlags_eq_setNZ cfg s.a s.p, fun cfg ea s => ?aslM⟩
  case adc => rw [eq_of_adc_ok h]; exact ⟨_, rfl⟩
  case aslM => rw [aslM_read_same]; exact exists_aslFlags_eq_setNZ cfg _ s.p

/-- Settles O17: with the operands as seven low bits and a weight of -128, the two carries differ exactly where the
signed sum leaves the range of a byte. -/
theorem adcOverflowIsSignedRange : Obligations.AdcOverflowIsSignedRange := by
  intro acc val c
  have := acc.isLt
  have := val.isLt
  have := Bool.toNat_lt c
  rw [adcOverflow_eq, toInt_eq_low_sub_high acc, toInt_eq_low_sub_high val, ← Bool.bne_eq_xor, bne_iff_ne, ne_eq,
    decide_eq_decide]
  omega

/-- Settles O16: every form has its row and its value, and under Binary the engine's run of ADC completes. -/
theorem adcAddsWithCarry : Obligations.AdcAddsWithCarry := by
  intro v w i s hi hf
  have hm := mnemonic_of_mem_adcForms v w i hi
  obtain ⟨val, extra, k, hv, hk⟩ := exists_row_and_value hm (by decide) (by decide) s
  have hexec := execute_adc hf hk hv nofun
  rw [← hm, ← exec_eq_execute] at hexec
  exact ⟨val, extra, k, _, hv, hk, hexec, adcEffect_of_result rfl rfl, setA_setP_retire_frame _ _ k extra hf rfl⟩

/-- Settles O19: every form has its row and its value, and the engine's run of AND completes. -/
theorem andMasksTheAccumulator : Obligations.AndMasksTheAccumulator := by
  intro v w i s hi hf
  have hm := mnemonic_of_mem_andForms v w i hi
  obtain ⟨val, extra, k, hv, hk⟩ := exists_row_and_value hm (by decide) (by decide) s
  have hexec := execute_and hf hk hv
  rw [← hm, ← exec_eq_execute] at hexec
  exact ⟨val, extra, k, _, hv, hk, hexec, andEffect_of_result rfl rfl, setA_setP_retire_frame _ _ k extra hf rfl⟩

end Sys2Proof.Proofs
end

section
/-! ASL under the active parameters (41_asl.md): each form has its row, each memory form its effective address, and the
effect is the one that AslCarry = Canonical gives (log 3). -/

namespace Sys2Proof.Proofs

open Sys2Proof.Machine Sys2Proof.Forms

section Laws

/-- The resolver has an address for every mode but the four it answers with an error (20_memory.md R75, R78, R85,
R86). -/
theorem exists_resolveAddress_ok {mode : AddressMode} (m : Mnemonic) (x y : Byte) (mem : Memory)
    (h : mode.variant ∉ [.immediate, .zeroPageY, .relative, .implied]) :
    ∃ ea extra, resolveAddress m mode x y mem = .ok (ea, extra) := by
  cases mode with
  | immediate | zeroPageY | relative | implied => simp [AddressMode.variant] at h
  | zeroPage | zeroPageX | absolute | absoluteX | absoluteY | indirect
  | preIndexedIndirectX | postIndexedIndirectY => exact ⟨_, _, rfl⟩

theorem mnemonic_of_mem_aslMemoryForms (v : Byte) (w : Addr) : ∀ i ∈ aslMemoryForms v w, i.mnemonic = .ASL := by
  simp [aslMemoryForms, Instr.mnemonic]

/-- The memory forms of ASL are in modes with an effective address. -/
theorem variant_of_mem_aslMemoryForms (v : Byte) (w : Addr) :
    ∀ i ∈ aslMemoryForms v w, i.mode.variant ∉ [.immediate, .zeroPageY, .relative, .implied] := by
  simp [aslMemoryForms, Instr.mode, AddressMode.variant]

end Laws

/-! ## The statements -/

/-- Settles O20: the row of ASL Implied is in the table, and the active parameters are one case of O22. -/
theorem aslShiftsTheAccumulator : Obligations.AslShiftsTheAccumulator := by
  intro s hf
  obtain ⟨k, hk, -, -⟩ := metricsOf_active_implemented (i := .aslImplied) (by decide)
  obtain ⟨accumulator, -⟩ := aslCarryParameter activeConfig s hf
  obtain ⟨t, hexec, heffect⟩ := accumulator k hk
  exact ⟨k, t, hk, hexec, heffect⟩

/-- Settles O21: every form has its row and its effective address, and the active parameters are one case of O22. -/
theorem aslShiftsMemory : Obligations.AslShiftsMemory := by
  intro v w i s hi hf
  have hm := mnemonic_of_mem_aslMemoryForms v w i hi
  have hvariant := variant_of_mem_aslMemoryForms v w i hi
  have hmode : i.mode ≠ .implied := fun h => hvariant (by rw [h]; decide)
  obtain ⟨k, hk, -, -⟩ := metricsOf_active_implemented (i := i) (by rw [hm]; decide)
  obtain ⟨ea, extra, ha⟩ := exists_resolveAddress_ok .ASL s.x s.y s.mem hvariant
  rw [hm] at hk
  obtain ⟨-, memory⟩ := aslCarryParameter activeConfig s hf
  obtain ⟨t, hexec, heffect⟩ := memory i.mode k ea extra hmode hk ha
  rw [← hm, ← exec_eq_execute] at hexec
  exact ⟨ea, extra, k, t, ha, hk, hexec, heffect⟩

end Sys2Proof.Proofs
end

section
/-! The recognised mnemonics without semantics (42_unimplemented.md): an instruction whose mnemonic has no semantic
function raises NotYetImplemented, and every listed form is one of that kind (log 1). -/

namespace Sys2Proof.Proofs

open Sys2Proof.Machine Sys2Proof.Forms

section Laws

variable {q : Instr × Mnemonic} {s : State}

/-- An instruction with the mnemonic listed beside it, which is one of the 53 without a semantic function. -/
@[reducible] def Unimplemented (q : Instr × Mnemonic) : Prop := q.1.mnemonic = q.2 ∧ q.2 ∉ implemented

/-- Step 1 of the engine raises the error: FAULT records the mnemonic and nothing else changes (30_encoding.md R106,
60_exceptions.md R302, R306). -/
theorem exec_unimplemented (h : Unimplemented q) (hf : s.fault = none) :
    exec q.1 s = .next { s with fault := some (.notYetImplemented q.2) } := by
  obtain ⟨hm, hn⟩ := h
  rw [exec_eq_execute, hm]
  exact execute_notYetImplemented hf (semanticOf_of_not_implemented hn)

/-! ## The listed forms

An instruction's mnemonic does not depend on its operand, so each list is checked by evaluation with the operand
bytes left free. -/

theorem unimplemented_of_mem_branchForms (v : Byte) : ∀ q ∈ branchForms v, Unimplemented q :=
  of_decide_eq_true rfl

theorem unimplemented_of_mem_loadStoreForms (v : Byte) (w : Addr) :
    ∀ q ∈ loadStoreForms v w, Unimplemented q :=
  of_decide_eq_true rfl

theorem unimplemented_of_mem_arithmeticCompareForms (v : Byte) (w : Addr) :
    ∀ q ∈ arithmeticCompareForms v w, Unimplemented q :=
  of_decide_eq_true rfl

theorem unimplemented_of_mem_shiftRotateForms (v : Byte) (w : Addr) :
    ∀ q ∈ shiftRotateForms v w, Unimplemented q :=
  of_decide_eq_true rfl

theorem unimplemented_of_mem_controlForms (w : Addr) : ∀ q ∈ controlForms w, Unimplemented q :=
  of_decide_eq_true rfl

theorem unimplemented_of_mem_flagSetForms : ∀ q ∈ flagSetForms, Unimplemented q :=
  of_decide_eq_true rfl

theorem unimplemented_of_mem_transferStackForms : ∀ q ∈ transferStackForms, Unimplemented q :=
  of_decide_eq_true rfl

end Laws

/-! ## The statements -/

/-- Settles O23: every branch has a mnemonic without a semantic function. -/
theorem branchesRaiseNotYetImplemented : Obligations.BranchesRaiseNotYetImplemented := fun v q _ hq hf =>
  exec_unimplemented (unimplemented_of_mem_branchForms v q hq) hf

/-- Settles O24: every load and store has a mnemonic without a semantic function. -/
theorem loadsAndStoresRaiseNotYetImplemented : Obligations.LoadsAndStoresRaiseNotYetImplemented :=
  fun v w q _ hq hf => exec_unimplemented (unimplemented_of_mem_loadStoreForms v w q hq) hf

/-- Settles O25: every listed arithmetic, logic, compare, increment and decrement form has a mnemonic without a
semantic function. -/
theorem arithmeticAndComparesRaiseNotYetImplemented : Obligations.ArithmeticAndComparesRaiseNotYetImplemented :=
  fun v w q _ hq hf => exec_unimplemented (unimplemented_of_mem_arithmeticCompareForms v w q hq) hf

/-- Settles O26: every form of LSR, ROL and ROR has a mnemonic without a semantic function, Implied included. -/
theorem shiftsAndRotatesRaiseNotYetImplemented : Obligations.ShiftsAndRotatesRaiseNotYetImplemented :=
  fun v w q _ hq hf => exec_unimplemented (unimplemented_of_mem_shiftRotateForms v w q hq) hf

/-- Settles O27: every control form has a mnemonic without a semantic function. -/
theorem controlRaisesNotYetImplemented : Obligations.ControlRaisesNotYetImplemented := fun w q _ hq hf =>
  exec_unimplemented (unimplemented_of_mem_controlForms w q hq) hf

/-- Settles O28, for a flag instruction and for a transfer or stack instruction. -/
theorem flagsTransfersStackRaiseNotYetImplemented : Obligations.FlagsTransfersStackRaiseNotYetImplemented := by
  intro q s hq hf
  obtain hflag | hstack := List.mem_append.mp hq
  · exact exec_unimplemented (unimplemented_of_mem_flagSetForms q hflag) hf
  · exact exec_unimplemented (unimplemented_of_mem_transferStackForms q hstack) hf

end Sys2Proof.Proofs
end

section
/-! The errors of the block (60_exceptions.md): which error a step records is decided by the opcode byte at PC alone, an
error is written to FAULT and nowhere else, and no step follows one (log 1). -/

namespace Sys2Proof.Proofs

open Sys2Proof.Machine Sys2Proof.Forms

section Laws

variable {cfg : Config} {m : Mnemonic} {mode : AddressMode} {s t : State}

/-! ## The errors that `execute` records -/

/-- A mode the engine cannot resolve for an implemented mnemonic: the two modes that are not defined (20_memory.md R78,
R85), and Immediate for ASL, which wants an effective address (R75). -/
def Unresolvable (m : Mnemonic) (mode : AddressMode) : Prop :=
  ∃ b, mode = .zeroPageY b ∨ mode = .relative b ∨ (m = .ASL ∧ mode = .immediate b)

theorem applySemantic_unresolvable {f : SemanticFunction} (hs : semanticOf cfg m = some f) (h : Unresolvable m mode)
    (s : State) : applySemantic f m mode s = .raised (.unsupportedAddressingMode m mode) := by
  obtain ⟨b, rfl | rfl | ⟨rfl, rfl⟩⟩ := h
  · cases f <;> rfl
  · cases f <;> rfl
  · cases hs; rfl

/-- Whether or not the cost table has a row for the pair (30_encoding.md R109). -/
theorem execute_unresolvable (hf : s.fault = none) (hm : m ∈ implemented) (h : Unresolvable m mode) :
    execute cfg m mode s = .next (s.raise (.unsupportedAddressingMode m mode)) := by
  have hne := semanticOf_of_implemented (cfg := cfg) hm
  cases hk : metricsOf cfg m mode.variant with
  | none => exact execute_noRow hf hne hk
  | some k =>
    obtain ⟨f, hs⟩ := Option.ne_none_iff_exists'.mp hne
    rw [execute_running hf hs hk, applySemantic_unresolvable hs h]
    rfl

theorem execute_implemented_fault_ne (hm : m ∈ implemented) (h : execute cfg m mode s = .next t) (n : Mnemonic) :
    t.fault ≠ some (.notYetImplemented n) := by
  obtain ⟨hf, (⟨hs, -⟩ | ⟨-, rfl⟩) | hc⟩ := execute_next h
  · exact absurd hs (semanticOf_of_implemented hm)
  · nofun
  · rw [hc.fault, hf]; nofun

/-- A completed instruction leaves FAULT None, so a next state that records an error was reached by raising it. -/
theorem eq_setFault_of_error (hf : s.fault = none) (h : (∃ e, t = s.raise e) ∨ ∃ m mode, Completed cfg m mode s t)
    (hne : t.fault ≠ none) : t = { s with fault := t.fault } := by
  obtain ⟨e, rfl⟩ | ⟨m, mode, hc⟩ := h
  · rfl
  · exact absurd (hc.fault.trans hf) hne

/-! ## The error that a step records -/

theorem opcodeMnemonic_eq_decodeRow (op : Byte) :
    opcodeMnemonic op = (decodeRow activeConfig op).map DecodeRow.mnemonic := by
  rw [decodeRow_active, opcodeMnemonic]
  obtain - | f := opcodeFormat op
  · rfl
  · cases f <;> rfl

theorem opcodeMnemonic_of_fetch {mem : Memory} {pc : Addr} {i : Instr} (h : fetch mem pc = .ok i) :
    opcodeMnemonic (mem.read pc) = some i.mnemonic := by
  rw [← fetch_opcode h, opcodeMnemonic_eq_decodeRow, decodeRow_active_opcode]
  rfl

theorem opcodeMnemonic_of_fetch_error {mem : Memory} {pc : Addr} {e : BlockError} (h : fetch mem pc = .error e) :
    opcodeMnemonic (mem.read pc) = none := by
  obtain ⟨hn, -⟩ := fetch_error h
  simp only [opcodeMnemonic, hn]

/-- With the active parameters every instruction of ADC, AND and ASL completes: it has its row, its operand resolves,
and P.D is ignored. -/
theorem exec_implemented {i : Instr} (hf : s.fault = none) (hi : i.mnemonic ∈ implemented) :
    ∃ t, exec i s = .next t ∧ t.fault = none := by
  obtain ⟨hm, -⟩ | ⟨hm, -⟩ | ⟨hm, -⟩ | ⟨-, -, -, hs⟩ := semanticOf_cases activeConfig i.mnemonic
  · obtain ⟨val, extra, k, hv, hk⟩ := exists_row_and_value hm (by decide) (by decide) s
    rw [exec_eq_execute, hm]
    exact ⟨_, execute_adc hf hk hv nofun, hf⟩
  · obtain ⟨val, extra, k, hv, hk⟩ := exists_row_and_value hm (by decide) (by decide) s
    rw [exec_eq_execute, hm]
    exact ⟨_, execute_and hf hk hv, hf⟩
  · by_cases hmode : i.mode = .implied
    · obtain rfl := eq_aslImplied hm hmode
      obtain ⟨k, t, -, hexec, -, ⟨-, -, -, hfault⟩, -⟩ := aslShiftsTheAccumulator s hf
      exact ⟨t, hexec, hfault⟩
    · obtain ⟨v, w, hform⟩ := mem_aslMemoryForms hm hmode
      obtain ⟨ea, extra, k, t, -, -, hexec, -, -, -, ⟨-, -, -, hfault⟩, -⟩ := aslShiftsMemory v w i s hform hf
      exact ⟨t, hexec, hfault⟩
  · exact absurd hs (semanticOf_of_implemented hi)

/-- The error that a step records at an opcode byte, if it does (60_exceptions.md R302, R303). -/
def opcodeError (op : Byte) : Option BlockError :=
  match opcodeMnemonic op with
  | none => some (.illegalOpcode op)
  | some m => if m ∈ implemented then none else some (.notYetImplemented m)

theorem opcodeError_ne_unsupported (op : Byte) (m : Mnemonic) (mode : AddressMode) :
    opcodeError op ≠ some (.unsupportedAddressingMode m mode) := by
  unfold opcodeError
  split
  · nofun
  · split <;> nofun

theorem opcodeError_eq_notYetImplemented_iff (op : Byte) (m : Mnemonic) :
    opcodeError op = some (.notYetImplemented m) ↔ opcodeMnemonic op = some m ∧ m ∉ implemented := by
  unfold opcodeError
  cases opcodeMnemonic op with
  | none => simp
  | some n =>
    have hsame (h : n = m) : n ∈ implemented ↔ m ∈ implemented := by rw [h]
    by_cases hn : n ∈ implemented
    · simpa [hn] using hsame
    · simpa [hn] using hsame

/-- A step that starts with FAULT None has a next state, whose FAULT the opcode byte at PC decides. -/
theorem step_fault (hf : s.fault = none) : ∃ t, step s = .next t ∧ t.fault = opcodeError (s.mem.read s.pc) := by
  cases hi : fetch s.mem s.pc with
  | error e =>
    obtain ⟨-, rfl⟩ := fetch_error hi
    refine ⟨s.raise (.illegalOpcode (s.mem.read s.pc)), by simp only [step, hf, hi], ?_⟩
    simp only [opcodeError, opcodeMnemonic_of_fetch_error hi, State.raise_fault]
  | ok i =>
    simp only [opcodeError, opcodeMnemonic_of_fetch hi]
    by_cases hm : i.mnemonic ∈ implemented
    · obtain ⟨t, hexec, hfault⟩ := exec_implemented hf hm
      exact ⟨t, by simp only [step, hf, hi, hexec], by rw [hfault, if_pos hm]⟩
    · exact ⟨_, step_not_implemented hf hi hm, by rw [State.raise_fault, if_neg hm]⟩

theorem fault_of_step (h : step s = .next t) : t.fault = opcodeError (s.mem.read s.pc) := by
  obtain ⟨hf, -⟩ := step_next h
  obtain ⟨u, hu, hfault⟩ := step_fault hf
  obtain rfl : u = t := Host.Outcome.next.inj (hu.symm.trans h)
  exact hfault

end Laws

/-! ## The statements -/

/-- Settles O29: step 1 of the engine by the mnemonic alone, through a step by the opcode byte, and the 130 values
by evaluating the opcode map on each byte. -/
theorem notYetImplementedRaised : Obligations.NotYetImplementedRaised := by
  refine ⟨fun cfg m mode s hf => ⟨fun hm => ?raised, fun hm n t h => execute_implemented_fault_ne hm h n⟩,
    fun s hf m => ?step, rfl⟩
  case raised => exact execute_notYetImplemented hf (semanticOf_of_not_implemented hm)
  case step =>
    rw [← opcodeError_eq_notYetImplemented_iff]
    constructor
    · rintro ⟨t, h, hfault⟩
      exact (fault_of_step h).symm.trans hfault
    · intro hop
      obtain ⟨t, h, hfault⟩ := step_fault hf
      exact ⟨t, h, hfault.trans hop⟩

/-- Settles O30: by the engine's lookup, by its resolver, and because the opcode byte never decides for this error. -/
theorem unsupportedModeRaised : Obligations.UnsupportedModeRaised :=
  ⟨fun _ _ _ _ hf hm hrow => execute_noRow hf (semanticOf_of_implemented hm) hrow,
    fun _ _ _ _ hf hm h => execute_unresolvable hf hm h,
    fun s _ m mode h hfault =>
      opcodeError_ne_unsupported (s.mem.read s.pc) m mode ((fault_of_step h).symm.trans hfault)⟩

/-- Settles O31: a next state is reached by raising an error or by completing, and completing records none. -/
theorem errorWritesOnlyFault : Obligations.ErrorWritesOnlyFault := by
  refine fun cfg s t => ⟨fun m mode h hne => ?execute, fun h hne => ?step⟩
  case execute =>
    obtain ⟨hf, -⟩ := execute_next h
    exact eq_setFault_of_error hf ((execute_raises_or_completes h).imp_right fun hc => ⟨m, mode, hc⟩) hne
  case step =>
    obtain ⟨hf, -⟩ := stepWith_next h
    exact eq_setFault_of_error hf (stepWith_raises_or_completes h) hne

/-- Settles O32: `execute` and a step answer a next state only where FAULT is None, and a meaning is a run of
`execute`. -/
theorem noStepAfterAnError : Obligations.NoStepAfterAnError := by
  refine ⟨fun s hne => ⟨fun t h => hne (step_next h).1, fun i t h => ?exec, fun cfg t h => hne (stepWith_next h).1,
    fun cfg m mode t h => hne (execute_next h).1⟩, rfl⟩
  rw [exec_eq_execute] at h
  exact hne (execute_next h).1

/-- Settles O35: each code is the definition's own. -/
theorem faultCodes : Obligations.FaultCodes := fun _ _ _ => ⟨rfl, rfl, rfl, rfl⟩

end Sys2Proof.Proofs
end

section
/-! Construction, runs and placed programs (70_reset_and_hazards.md): a run is the run of its rest from the state it
reached, and the bytes of a placed word are the three bytes that the fetch reads. -/

namespace Sys2Proof.Proofs

open Sys2Proof.Machine Sys2Proof.Safety

/-! ## Runs of a machine -/

section Runs

variable {M : Host.Core} {s t : M.State}

theorem run_succ_of_next (h : M.step s = .next t) (k : Nat) : M.run (k + 1) s = M.run k t := by
  simp only [Host.Core.run, h]

theorem run_succ_of_fault {r : M.Fault} (h : M.step s = .fault r) (k : Nat) : M.run (k + 1) s = .fault r := by
  simp only [Host.Core.run, h]

theorem exists_next_of_run_succ {k : Nat} (h : M.run (k + 1) s = .next t) :
    ∃ u, M.step s = .next u ∧ M.run k u = .next t := by
  simp only [Host.Core.run] at h
  split at h
  case h_1 u hu => exact ⟨u, hu, h⟩
  all_goals cases h

theorem run_add_of_next {k : Nat} (h : M.run k s = .next t) (n : Nat) : M.run (k + n) s = M.run n t := by
  induction k generalizing s with
  | zero => cases h; rw [Nat.zero_add]
  | succ k ih =>
    obtain ⟨u, hu, hrun⟩ := exists_next_of_run_succ h
    rw [Nat.succ_add, run_succ_of_next hu, ih hrun]

theorem exists_next_of_run_add {k n : Nat} (h : M.run (k + n) s = .next t) : ∃ u, M.run k s = .next u := by
  induction k generalizing s with
  | zero => exact ⟨s, rfl⟩
  | succ k ih =>
    rw [Nat.succ_add] at h
    obtain ⟨v, hv, hrun⟩ := exists_next_of_run_succ h
    rw [run_succ_of_next hv]
    exact ih hrun

end Runs

section Laws

variable {s t : State}

/-! ## Runs of the block -/

theorem step_stopped {e : BlockError} (h : s.fault = some e) : step s = .fault (.stopped e) :=
  (step_eq_stepWith s).trans (stepWith_stopped h)

theorem run_succ_stopped {e : BlockError} (h : s.fault = some e) (k : Nat) :
    Sys2Proof.core.run (k + 1) s = .fault (.stopped e) :=
  run_succ_of_fault (M := Sys2Proof.core) (step_stopped h) k

theorem run_after_error {k j : Nat} {e : BlockError} (h : Sys2Proof.core.run k s = .next t)
    (he : t.fault = some e) (hkj : k < j) : Sys2Proof.core.run j s = .fault (.stopped e) := by
  obtain ⟨n, rfl⟩ := Nat.exists_eq_add_of_lt hkj
  exact (run_add_of_next h (n + 1)).trans (run_succ_stopped he n)

theorem endsWell_of_le {k j : Nat} (h : EndsWell k s) (hjk : j ≤ k) : EndsWell j s := by
  obtain rfl | hlt := hjk.eq_or_lt
  · exact h
  · obtain ⟨t, hrun, -⟩ := h
    obtain ⟨n, rfl⟩ := Nat.exists_eq_add_of_le hjk
    obtain ⟨u, hu⟩ := exists_next_of_run_add hrun
    have hrunning : u.fault = none := by
      by_contra hne
      obtain ⟨e, he⟩ := Option.ne_none_iff_exists'.mp hne
      cases hrun.symm.trans (run_after_error hu he hlt)
    exact ⟨u, hu, hrunning⟩

/-! ## Placed bytes -/

theorem read_load_of_ne {bs : List Byte} {addr : Addr} (m : Memory) (a : Addr)
    (h : ∀ n < bs.length, addr ≠ a + BitVec.ofNat 16 n) : (m.load a bs).read addr = m.read addr := by
  induction bs generalizing m a with
  | nil => rfl
  | cons b bs ih =>
    have hhead : addr ≠ a := by simpa using h 0 (by simp)
    have htail : ∀ n < bs.length, addr ≠ a + 1 + BitVec.ofNat 16 n := by
      intro n hn
      have := h (n + 1) (by simpa using hn)
      bv_omega
    rw [Memory.load_cons, ih _ _ htail, Memory.read_write_ne _ hhead]

/-- Bytes that fit in the memory do not wrap around to overwrite the first of them. -/
theorem read_load_head (m : Memory) (a : Addr) (b : Byte) {bs : List Byte} (hlen : bs.length < 65536) :
    (m.load a (b :: bs)).read a = b := by
  have hne : ∀ n < bs.length, a ≠ a + 1 + BitVec.ofNat 16 n := by
    intro n hn
    bv_omega
  rw [Memory.load_cons, read_load_of_ne _ _ hne, Memory.read_write_same]

theorem read_load_three (m : Memory) (a : Addr) (b0 b1 b2 : Byte) :
    [(m.load a [b0, b1, b2]).read a, (m.load a [b0, b1, b2]).read (a + 1),
      (m.load a [b0, b1, b2]).read (a + 2)] = [b0, b1, b2] := by
  have h0 := read_load_head m a b0 (bs := [b1, b2]) (by simp)
  have h1 := read_load_head (m.write a b0) (a + 1) b1 (bs := [b2]) (by simp)
  have h2 := read_load_head ((m.write a b0).write (a + 1) b1) (a + 1 + 1) b2 (bs := []) (by simp)
  have haddr : a + 2 = a + 1 + 1 := by bv_omega
  simp only [← Memory.load_cons] at h1 h2
  rw [haddr, h0, h1, h2]

theorem decode_of_decodeTableWord {nbits w : Nat} {i : Instr} (h : decodeTableWord nbits w = some i) :
    ∃ rest, decode (wordBytes nbits w) = .ok (i, rest) := by
  simp only [decodeTableWord] at h
  split at h <;> cases h
  case h_1 rest hdecode => exact ⟨rest, hdecode⟩

theorem step_withFetchWord {nbits w : Nat} {i : Instr} (hf : s.fault = none) (h : decodeTableWord nbits w = some i) :
    step (s.withFetchWord nbits w) = exec i (s.withFetchWord nbits w) := by
  obtain ⟨rest, hdecode⟩ := decode_of_decodeTableWord h
  rw [wordBytes, ← read_load_three s.mem s.pc] at hdecode
  exact step_of_decode hf hdecode

theorem read_withFetchWord_of_ne {addr : Addr} (nbits w : Nat) (h0 : addr ≠ s.pc) (h1 : addr ≠ s.pc + 1)
    (h2 : addr ≠ s.pc + 2) : (s.withFetchWord nbits w).mem.read addr = s.mem.read addr := by
  refine read_load_of_ne s.mem s.pc fun n hn => ?_
  have hlt : n < 3 := hn
  interval_cases n <;> simpa

end Laws

/-! ## The statements -/

/-- Settles O33: a state that holds an error takes no step, so a run that goes on from there answers the fault. -/
theorem runStopsAtTheFirstError : Obligations.RunStopsAtTheFirstError :=
  ⟨fun _ _ _ _ h he _ hkj => run_after_error h he hkj, fun _ _ h _ hjk => endsWell_of_le h hjk⟩

/-- Settles O42: the fetch reads the placed bytes, which decode to the instruction, and only they were written. -/
theorem placedWordRuns : Obligations.PlacedWordRuns := fun _ nbits w _ hf h =>
  ⟨step_withFetchWord hf h, rfl, fun _ h0 h1 h2 => read_withFetchWord_of_ne nbits w h0 h1 h2⟩

/-- Settles O13: the fields are those that `State.reset` and `State.start` list, and nothing is listed in memory. -/
theorem constructionState : Obligations.ConstructionState := by
  refine ⟨?reset, fun _ _ _ _ _ _ _ => ⟨rfl, rfl, rfl, rfl, rfl, rfl, rfl, rfl, rfl⟩⟩
  rintro s rfl
  exact ⟨rfl, rfl, rfl, rfl, rfl, rfl, rfl, rfl, fun addr => Memory.readAt_nil addr.toNat⟩

/-- Settles O14: the memory after construction lists no byte. -/
theorem constructionMeetsTheInvariant : Obligations.ConstructionMeetsTheInvariant := Memory.wf_nil

end Sys2Proof.Proofs
end
